-- ==== Sys2Proof/Word.lean ====
section
/-! DEFINITION. The words of the BE-440 (the widths of spec/00, Tables 2 and 3), and reading and
replacing one place of a fixed row of like things (ports, slots, windows, rules). -/

namespace Sys2Proof

/-- A byte of the management frame (Table 52). -/
abbrev Byte := BitVec 8

/-- A 32-bit number: the tick count, a per-port counter, the value of a management frame. -/
abbrev Word32 := BitVec 32

/-- The 64 bits of bytes 0 to 7 of a management frame, byte 0 first (Table 52). -/
abbrev FrameWord := BitVec 64

/-- The 8 bytes of one beat of data (Table 2). -/
abbrev BeatData := BitVec 64

/-- A byte mask, one bit per byte of a beat (R25). -/
abbrev ByteMask := BitVec 8

/-- An address in beat units: the byte address divided by 8 (Table 10). -/
abbrev BeatAddress := BitVec 37

/-- A block number: the byte address divided by 64 (Table 2). -/
abbrev Block := BitVec 34

/-- A tag chosen by a master (Table 3). -/
abbrev Tag := BitVec 8

/-- A sequence number of a reply entry; it wraps (R91). -/
abbrev Sequence := BitVec 8

/-- A request port, 0 to 3. -/
abbrev PortId := Fin 4

/-- A slot of the outstanding table, 0 to 31. -/
abbrev SlotId := Fin 32

/-- A window index, 0 to 7. -/
abbrev WindowId := Fin 8

/-- An access rule index, 0 to 7. -/
abbrev RuleId := Fin 8

/-- The high part of a block number, as a management field holds it (R161). -/
def Block.high (b : Block) : BitVec 2 := b.extractLsb' 32 2

/-- The low part of a block number (R161). -/
def Block.low (b : Block) : BitVec 32 := b.extractLsb' 0 32

/-- The block number with the given high and low parts (R161). -/
def Block.join (high : BitVec 2) (low : BitVec 32) : Block := high ++ low

variable {α : Type} {n : Nat}

/-- The thing at place `i` of a row. -/
def look (v : Vector α n) (i : Fin n) : α := v[i.val]

/-- The row with place `i` holding `x`. -/
def put (v : Vector α n) (i : Fin n) (x : α) : Vector α n := v.set i.val x i.isLt

/-- The row whose place `i` holds `f i`. -/
def tabulate (f : Fin n → α) : Vector α n := Vector.ofFn f

/-- A list with the first thing that satisfies `p` replaced by its image under `f`. -/
def updateFirst (p : α → Bool) (f : α → α) : List α → List α
  | [] => []
  | x :: xs => if p x then f x :: xs else x :: updateFirst p f xs

end Sys2Proof
end

