-- ==== Sys2Proof/Config.lean ====
section
/-! DEFINITION. The capacities of the BE-440, as the owning rules apply them, the identity fields
that report them (R166), and the one free value: an order that the spec leaves open (R119). -/

namespace Sys2Proof.Config

/-- Queued requests a port holds (R26, R34). -/
def queueCapacity : Nat := 16

/-- Reply entries a port holds (R26, R88). -/
def replyCapacity : Nat := 32

/-- Beats of the write store (R37). -/
def writeStoreBeats : Nat := 256

/-- Beats of the read store (R82). -/
def readStoreBeats : Nat := 256

/-- Records of the event queue (R148). -/
def eventCapacity : Nat := 32

/-- Where the drop count stops (R149). -/
def dropLimit : Nat := 255

/-- Where the beat counts of an occurrence stop (Table 8). -/
def beatCountLimit : Nat := 65535

/-- Beats of a block, and so the longest request that is served (Table 2, R28). -/
def blockBeats : Nat := 8

/-- Bits of a management frame that carry the command (R157). -/
def commandBits : Nat := 64

/-- Bits of a whole management frame (R157). -/
def frameBits : Nat := 104

/-- The IDENTITY fields, in the order of their codes 00h to 0Bh (Table 56). -/
def identity : Vector Nat 12 := #v[0x12, 0x0440, 1, 4, 32, 256, 256, 16, 32, 32, 8, 8]

/-- FREE VALUE. The rank of a slot among those that expire at one tick end, which expire in rising
rank. The first argument tells one tick end from another. R119 lets the expiries be taken in any
order (log 12). -/
opaque expiryRank : Nat → SlotId → Nat

end Sys2Proof.Config
end

