-- ==== Sys2Proof/Syntax.lean ====
section
/-! DEFINITION. The commands of the BE-440: one constructor per row of spec/opcode_table.json, with
the operands the spec gives the row, and the records those operands hold. -/

namespace Sys2Proof

/-- A request is a READ or a WRITE (Table 10). -/
inductive Kind where
  | read
  | write
  deriving DecidableEq, Repr

/-- The status of a completion header (Table 23). -/
inductive MemStatus where
  | good
  | fault
  deriving DecidableEq, Repr

/-- One data beat of a WRITE: 8 bytes and their mask (R25). -/
structure WriteBeat where
  data : BeatData
  mask : ByteMask
  deriving DecidableEq, Repr

/-- What a request record holds by its kind (Table 10, R23). A READ carries a length of 0 to 15 and
no data. A WRITE carries its data beats, and its length is their number. -/
inductive RequestBody where
  | read (length : Fin 16)
  | write (beats : List WriteBeat)
  deriving DecidableEq, Repr

/-- A request record, as a master offers it on its request channel (Table 10). -/
structure Request where
  address : BeatAddress
  tag : Tag
  body : RequestBody
  deriving DecidableEq, Repr

/-- A management command with the operands it uses (Tables 45 and 53). -/
inductive MgmtCommand where
  | noOperation
  | read (object index field : Byte)
  | write (object index field : Byte) (value : Word32)
  | readAndClear (object index field : Byte)
  | commit
  | cancel
  | portEnable (index : Byte)
  | portDrain (index : Byte)
  | portFlush (index : Byte)
  | clearCounters (index : Byte)
  | popEvent
  | linkRestart
  | softReset
  | unknown (code : Byte)
  deriving DecidableEq, Repr

/-- The commands of the block, one per row of the opcode table, in the table's order. -/
inductive Instr where
  /-- TICK_END (R1). -/
  | tickEnd
  /-- ARRIVAL (R33): the port on which the request record is offered, and the record. -/
  | arrival (port : PortId) (request : Request)
  /-- GRANT (R59). -/
  | grant
  /-- COMMAND_ITEM_TAKEN (R68). -/
  | commandItemTaken
  /-- TRANSFER_END (R69). -/
  | transferEnd
  /-- COMPLETION_HEADER (R72): the fields of the header (Table 23). -/
  | completionHeader (slot : SlotId) (kind : Kind) (status : MemStatus)
  /-- READ_BEAT (R75): the fields of the beat (Table 23). -/
  | readBeat (data : BeatData) (last : Bool)
  /-- DEADLINE_EXPIRY (R118): the slot that expires. -/
  | deadlineExpiry (slot : SlotId)
  /-- LINK_DOWN (R122). -/
  | linkDown
  /-- LINK_UP (R124). -/
  | linkUp
  /-- REPLY_ITEM_TAKEN (R98): the port whose master takes the item. -/
  | replyItemTaken (port : PortId)
  /-- DELIVERY_END (R99): the port whose master takes the last item. -/
  | deliveryEnd (port : PortId)
  /-- PORT_RESET_ASSERT (R137). -/
  | portResetAssert (port : PortId)
  /-- PORT_RESET_RELEASE (R140). -/
  | portResetRelease (port : PortId)
  /-- DEVICE_RESET_ASSERT (R154). -/
  | deviceResetAssert
  /-- DEVICE_RESET_RELEASE (R87). -/
  | deviceResetRelease
  /-- NO_OPERATION (R165). -/
  | noOperation
  /-- READ (R161). -/
  | read (object index field : Byte)
  /-- WRITE (R161). -/
  | write (object index field : Byte) (value : Word32)
  /-- READ_AND_CLEAR (R162). -/
  | readAndClear (object index field : Byte)
  /-- COMMIT (R10). -/
  | commit
  /-- CANCEL (R11). -/
  | cancel
  /-- PORT_ENABLE (R132). -/
  | portEnable (index : Byte)
  /-- PORT_DRAIN (R133). -/
  | portDrain (index : Byte)
  /-- PORT_FLUSH (R134). -/
  | portFlush (index : Byte)
  /-- CLEAR_COUNTERS (R156). -/
  | clearCounters (index : Byte)
  /-- POP_EVENT (R151). -/
  | popEvent
  /-- LINK_RESTART (R125). -/
  | linkRestart
  /-- SOFT_RESET (R167). -/
  | softReset
  /-- UNKNOWN_COMMAND (R165): a command code that names no command of Table 53. -/
  | unknownCommand (code : Byte)
  /-- CHIP_SELECT_FALL (R157). -/
  | chipSelectFall
  /-- CHIP_SELECT_RISE (R158). -/
  | chipSelectRise
  /-- SPI_CLOCK_RISING_EDGE (R157): the bit of data in at the edge. -/
  | spiClockRisingEdge (dataIn : Bool)
  /-- LINK_READY_FALLS_WHILE_RESTARTING (R122). -/
  | linkReadyFallsWhileRestarting
  deriving DecidableEq, Repr

/-- The row of the table that stands for the taking of a management command. -/
def MgmtCommand.toInstr : MgmtCommand → Instr
  | .noOperation => .noOperation
  | .read o i f => .read o i f
  | .write o i f v => .write o i f v
  | .readAndClear o i f => .readAndClear o i f
  | .commit => .commit
  | .cancel => .cancel
  | .portEnable i => .portEnable i
  | .portDrain i => .portDrain i
  | .portFlush i => .portFlush i
  | .clearCounters i => .clearCounters i
  | .popEvent => .popEvent
  | .linkRestart => .linkRestart
  | .softReset => .softReset
  | .unknown c => .unknownCommand c

end Sys2Proof
end

