-- ==== Sys2Proof/WellFormed.lean ====
section
/-! DEFINITION. The commands that can be offered to the part: a request record of Table 10, and a
command code that names no command only where the row says so. The meanings need neither check. -/

namespace Sys2Proof

/-- The command codes of Table 53. -/
def commandCodes : List Byte :=
  [0x00, 0x01, 0x02, 0x03, 0x10, 0x11, 0x20, 0x21, 0x22, 0x23, 0x30, 0x40, 0x50]

/-- A record of Table 10 carries at most 15 data beats. -/
def Request.wellFormed (r : Request) : Bool :=
  match r.body with
  | .read _ => true
  | .write beats => decide (beats.length ≤ 15)

/-- A command code that names no command (R165). -/
def unknownCode (code : Byte) : Bool := decide (code ∉ commandCodes)

/-- A management command as a frame can carry it. -/
def MgmtCommand.wellFormed : MgmtCommand → Bool
  | .unknown code => unknownCode code
  | .noOperation => true
  | .read _ _ _ => true
  | .write _ _ _ _ => true
  | .readAndClear _ _ _ => true
  | .commit => true
  | .cancel => true
  | .portEnable _ => true
  | .portDrain _ => true
  | .portFlush _ => true
  | .clearCounters _ => true
  | .popEvent => true
  | .linkRestart => true
  | .softReset => true

/-- A command that can be offered to the part. -/
def Instr.wellFormed : Instr → Bool
  | .arrival _ r => r.wellFormed
  | .unknownCommand code => unknownCode code
  | .tickEnd => true
  | .grant => true
  | .commandItemTaken => true
  | .transferEnd => true
  | .completionHeader _ _ _ => true
  | .readBeat _ _ => true
  | .deadlineExpiry _ => true
  | .linkDown => true
  | .linkUp => true
  | .replyItemTaken _ => true
  | .deliveryEnd _ => true
  | .portResetAssert _ => true
  | .portResetRelease _ => true
  | .deviceResetAssert => true
  | .deviceResetRelease => true
  | .noOperation => true
  | .read _ _ _ => true
  | .write _ _ _ _ => true
  | .readAndClear _ _ _ => true
  | .commit => true
  | .cancel => true
  | .portEnable _ => true
  | .portDrain _ => true
  | .portFlush _ => true
  | .clearCounters _ => true
  | .popEvent => true
  | .linkRestart => true
  | .softReset => true
  | .chipSelectFall => true
  | .chipSelectRise => true
  | .spiClockRisingEdge _ => true
  | .linkReadyFallsWhileRestarting => true

end Sys2Proof
end

