-- ==== Sys2Proof/Decode.lean ====
section
/-! DEFINITION. The command that a word spells by the table's bits, and the management command that
the 64 bits of a management frame spell (Tables 52 and 53), with the frame of each command. -/

namespace Sys2Proof

/-- No row of spec/opcode_table.json gives bits, so no word spells a command of the table. -/
def decodeTableWord (_nbits _w : Nat) : Option Instr := none

/-- Byte `k`, 0 to 7, of the command part of a frame, byte 0 first (Table 52). -/
def frameByte (w : FrameWord) (k : Nat) : Byte := w.extractLsb' (56 - 8 * k) 8

/-- The value bytes 4 to 7 of a frame, most significant byte first (Table 52). -/
def frameValue (w : FrameWord) : Word32 := w.extractLsb' 0 32

/-- The management command that a frame's first eight bytes spell (Tables 45, 52 and 53). Operands
that a command does not use are not examined. -/
def decodeFrame (w : FrameWord) : MgmtCommand :=
  let object := frameByte w 1
  let index := frameByte w 2
  let field := frameByte w 3
  let code := frameByte w 0
  if code = 0x00 then .noOperation
  else if code = 0x01 then .read object index field
  else if code = 0x02 then .write object index field (frameValue w)
  else if code = 0x03 then .readAndClear object index field
  else if code = 0x10 then .commit
  else if code = 0x11 then .cancel
  else if code = 0x20 then .portEnable index
  else if code = 0x21 then .portDrain index
  else if code = 0x22 then .portFlush index
  else if code = 0x23 then .clearCounters index
  else if code = 0x30 then .popEvent
  else if code = 0x40 then .linkRestart
  else if code = 0x50 then .softReset
  else .unknown code

/-- The frame whose bytes 0 to 3 and value are given (Table 52). -/
def frameOf (code object index field : Byte) (value : Word32) : FrameWord :=
  code ++ object ++ index ++ field ++ value

/-- A frame of a management command, with the bytes the command does not use all zero. -/
def encodeFrame : MgmtCommand → FrameWord
  | .noOperation => frameOf 0x00 0 0 0 0
  | .read o i f => frameOf 0x01 o i f 0
  | .write o i f v => frameOf 0x02 o i f v
  | .readAndClear o i f => frameOf 0x03 o i f 0
  | .commit => frameOf 0x10 0 0 0 0
  | .cancel => frameOf 0x11 0 0 0 0
  | .portEnable i => frameOf 0x20 0 i 0 0
  | .portDrain i => frameOf 0x21 0 i 0 0
  | .portFlush i => frameOf 0x22 0 i 0 0
  | .clearCounters i => frameOf 0x23 0 i 0 0
  | .popEvent => frameOf 0x30 0 0 0 0
  | .linkRestart => frameOf 0x40 0 0 0 0
  | .softReset => frameOf 0x50 0 0 0 0
  | .unknown code => frameOf code 0 0 0 0

/-- The word of a frame's first 64 bits, the first bit received the most significant (R157). -/
def wordOfBits (bits : List Bool) : FrameWord :=
  BitVec.ofNat 64 (bits.foldl (fun n b => 2 * n + b.toNat) 0)

/-- The bits of a frame's first eight bytes in the order in which they are clocked (R157). -/
def bitsOfWord (w : FrameWord) : List Bool := (List.range 64).map fun k => w.getMsbD k

end Sys2Proof
end

