-- ==== Sys2Proof/Machine/State.lean ====
section
/-! DEFINITION. The state of the BE-440: every register, queue, store share, counter, mode and input
level that spec/ gives the block, and the state right after reset. Outputs, the counts the spec
defines as counts of other state (R37, R67, R82, R120) and the links of Tables 12, 21 and 26 are
computed from it (Ops.lean, Flags.lean), so each fact has one home. -/

namespace Sys2Proof.Machine

/-- The block raises no fault: every occurrence spec/ describes is an effect on State. -/
inductive Fault where
  deriving DecidableEq, Repr

/-- Why a command has no meaning. -/
inductive Refusal where
  /-- The command of that mnemonic has no meaning yet. Raised by an arm of `exec` only; no arm
  raises it. Safe: the run stops. -/
  | notModelled (mnemonic : String)
  deriving DecidableEq, Repr

/-! ### Frame timer and schedule (spec/01) -/

/-- A window record (Table 6). -/
structure Window where
  owner : PortId
  start : BitVec 16
  length : BitVec 16
  guard : BitVec 8
  budget : BitVec 12
  lend : Bool
  deriving DecidableEq, Repr

/-- A schedule record (Table 5). -/
structure Schedule where
  period : BitVec 16
  prescaler : BitVec 8
  count : BitVec 8
  windows : Vector Window 8
  deriving DecidableEq, Repr

/-- A window occurrence record (Table 8). -/
structure Occurrence where
  isOpen : Bool
  remaining : Nat
  unlimited : Bool
  spent : Bool
  charged : Nat
  lent : Nat
  deriving DecidableEq, Repr

/-- A window usage record (R21). -/
structure Usage where
  charged : Nat
  lent : Nat
  spent : Bool
  deriving DecidableEq, Repr

/-! ### Request ports (spec/02, spec/03, spec/05, spec/08, spec/09) -/

/-- The start levels a port may hold (Table 19). -/
inductive StartLevel where
  | one
  | four
  | eight
  | sixteen
  deriving DecidableEq, Repr

/-- Port settings (Table 19). -/
structure Settings where
  weight : BitVec 4
  startLevel : StartLevel
  ageLimit : BitVec 16
  inFlightLimit : Nat
  posted : Bool
  deriving DecidableEq, Repr

/-- The state that the release of a port reset returns to (R131). -/
inductive ReturnState where
  | active
  | halted
  deriving DecidableEq, Repr

/-- A port state, with the return state and the drain report mark that IN_RESET keeps (R131). -/
inductive PortMode where
  | active
  | draining
  | halted
  | inReset (returnTo : ReturnState) (drainReport : Bool)
  deriving DecidableEq, Repr

/-- The four counters of a port (Table 43). -/
structure Counters where
  windowBeats : Word32
  bidBeats : Word32
  refused : Word32
  timeouts : Word32
  deriving DecidableEq, Repr

/-- A queued request record (Table 12). Its reply link is the entry of its port with its sequence,
present when the posted mark is clear. -/
structure QueuedRequest where
  kind : Kind
  block : Block
  offset : Fin 8
  length : Nat
  arrivalTick : Word32
  posted : Bool
  sequence : Sequence
  share : Option (List WriteBeat)
  deriving DecidableEq, Repr

/-- A reply status (Table 28). -/
inductive ReplyStatus where
  | ok
  | refused
  | malformed
  | dataError
  | timeout
  | aborted
  | linkReset
  deriving DecidableEq, Repr

/-- The stage of a reply, with the fields Table 26 gives it there. No data is the empty list. -/
inductive EntryState where
  | waiting
  | pending (slot : SlotId)
  | ready (status : ReplyStatus) (data : List BeatData)
  | delivering (status : ReplyStatus) (data : List BeatData) (itemsTaken : Nat)
  deriving DecidableEq, Repr

/-- A reply entry (Table 26). -/
structure ReplyEntry where
  sequence : Sequence
  tag : Tag
  kind : Kind
  state : EntryState
  deriving DecidableEq, Repr

/-- Everything kept for one request port. -/
structure Port where
  mode : PortMode
  /-- The level of the port reset input. -/
  resetInput : Bool
  settings : Settings
  queue : List QueuedRequest
  replies : List ReplyEntry
  nextSequence : Sequence
  counters : Counters
  deriving DecidableEq, Repr

/-! ### Outstanding table and memory port (spec/04, spec/07) -/

/-- The fields a slot receives at its grant and keeps until it is FREE (R64). -/
structure Command where
  port : PortId
  kind : Kind
  block : Block
  offset : Fin 8
  length : Nat
  sequence : Sequence
  posted : Bool
  deriving DecidableEq, Repr

/-- The deadline count of a slot: the tick ends still to come before it expires, if it has a count
(R117). -/
inductive Deadline where
  | absent
  | ticks (left : Nat)
  deriving DecidableEq, Repr

/-- A slot of the outstanding table with the fields Table 21 gives its state. `itemsTaken` counts the
items of the command the controller has taken (R68). -/
inductive Slot where
  | free
  | sending (command : Command) (share : Option (List WriteBeat)) (itemsTaken : Nat)
      (orphanMark : Bool)
  | issued (command : Command) (deadline : Deadline)
  | receiving (command : Command) (deadline : Deadline) (beats : List BeatData)
  | orphaned (command : Command)
  deriving DecidableEq, Repr

/-- The state of the completion channel (R71). -/
inductive CompletionChannel where
  | awaitHeader
  | data (slot : SlotId)
  | discard (slot : Option SlotId)
  deriving DecidableEq, Repr

/-- The link state (Table 34). -/
inductive LinkState where
  | up
  | down
  | restarting
  deriving DecidableEq, Repr

/-! ### Access rules (spec/06) -/

/-- The request kinds a rule covers (Table 31). -/
inductive RuleKinds where
  | read
  | write
  | both
  deriving DecidableEq, Repr

/-- What a rule decides (Table 31). -/
inductive RuleAction where
  | pass
  | passReport
  | refuse
  | refuseReport
  deriving DecidableEq, Repr

/-- A rule record (Table 31). Bit `n` of the port mask is set when port `n` is covered (Table 61). -/
structure Rule where
  enabled : Bool
  firstBlock : Block
  lastBlock : Block
  portMask : BitVec 4
  kinds : RuleKinds
  action : RuleAction
  deriving DecidableEq, Repr

/-- The default action (R106). -/
inductive DefaultAction where
  | pass
  | refuse
  deriving DecidableEq, Repr

/-! ### Events (spec/09) -/

/-- The slot state at an expiry (Table 41). -/
inductive ExpiryState where
  | issued
  | receiving
  deriving DecidableEq, Repr

/-- Why a posted write was lost (Table 41). -/
inductive LossCause where
  | flush
  | portReset
  | timeout
  | fault
  | linkDown
  | deviceReset
  deriving DecidableEq, Repr

/-- How a drain ended (Table 41). -/
inductive HaltCause where
  | drained
  | resetRelease
  deriving DecidableEq, Repr

/-- Why the link went down (Table 41). -/
inductive DownCause where
  | readyFell
  | restart
  deriving DecidableEq, Repr

/-- An occurrence with the optional fields Table 40 and R146 give its kind, in the order port, slot,
window, block, sequence, status or cause, rule index. A RULE_HIT gives its status or cause field by
the kind of the request and whether it was refused. A STRAY_COMPLETION has its two forms. -/
inductive Occasion where
  | ruleHit (port : PortId) (block : Block) (sequence : Sequence) (kind : Kind) (refused : Bool)
      (rule : RuleId)
  | malformedRequest (port : PortId) (block : Block) (sequence : Sequence)
  | budgetSpent (port : PortId) (window : WindowId)
  | scheduleSwitched
  | timeout (port : PortId) (slot : SlotId) (block : Block) (sequence : Sequence)
      (state : ExpiryState)
  | lateCompletion (port : PortId) (slot : SlotId) (block : Block) (sequence : Sequence)
      (status : MemStatus)
  | strayHeader (port : Option PortId) (slot : SlotId) (status : MemStatus)
  | strayBeats
  | completionMismatch (port : PortId) (slot : SlotId) (block : Block) (sequence : Sequence)
  | memoryFault (port : PortId) (slot : SlotId) (block : Block) (sequence : Sequence)
  | postedWriteFailed (port : PortId) (slot : Option SlotId) (block : Block)
      (sequence : Sequence) (cause : LossCause)
  | portHalted (port : PortId) (cause : HaltCause)
  | linkDown (cause : DownCause)
  | linkUp
  deriving DecidableEq, Repr

/-- An event record (Table 39). -/
structure EventRecord where
  frameNumber : BitVec 16
  frameTick : Nat
  occasion : Occasion
  deriving DecidableEq, Repr

/-! ### Management port (spec/10) -/

/-- The result codes (Table 54). -/
inductive ResultCode where
  | done
  | empty
  | badObject
  | badField
  | badValue
  | readOnly
  | stagedLocked
  | notAllowed
  | badPeriod
  | badPrescaler
  | badCount
  | windowPastPeriod
  | windowOrder
  | guardOverlap
  deriving DecidableEq, Repr

/-- The result of a management command: bytes 8 to 12 of its frame (R159). -/
structure Result where
  code : ResultCode
  value : Word32
  deriving DecidableEq, Repr

/-- The management frame (Table 44): the bits received while in COMMAND, oldest first, and the bits
clocked and the result while in ANSWER. -/
inductive MgmtFrame where
  | unselected
  | command (bits : List Bool)
  | answer (bitCount : Nat) (result : Result)
  | overrun
  deriving DecidableEq, Repr

/-! ### The whole machine -/

/-- The state of the BE-440, and the queue of the commands that wait. -/
structure State where
  /-- The commands that wait, first in, first out: the host's interface to the block. -/
  pending : List Instr
  /-- The model's own: the tick ends whose order of expiries was drawn from `Config.expiryRank`
  (log 12). -/
  draws : Nat
  /-- The device reset input is asserted. -/
  deviceReset : Bool
  /-- The level of the link ready input. -/
  linkReady : Bool
  /-- Memory clocks counted since the end of the previous tick (R1). -/
  clocks : Nat
  tickCount : Word32
  frameTick : Nat
  frameNumber : BitVec 16
  active : Schedule
  staged : Schedule
  commitPending : Bool
  occurrences : Vector Occurrence 8
  usage : Vector Usage 8
  ports : Vector Port 4
  threshold : BitVec 12
  slots : Vector Slot 32
  completion : CompletionChannel
  rules : Vector Rule 8
  defaultAction : DefaultAction
  deadline : BitVec 16
  link : LinkState
  /-- The event queue, oldest record first (R148). -/
  events : List EventRecord
  dropCount : Nat
  /-- The popped record holder (Table 42). -/
  holder : Option EventRecord
  /-- The record enables, by kind code (R147, Table 62). -/
  enables : Vector Bool 13
  frame : MgmtFrame
  deriving DecidableEq, Repr

/-! ### The reset state -/

/-- A window record of the default schedule (R8). -/
def Window.default : Window :=
  { owner := 0, start := 0, length := 1, guard := 0, budget := 0, lend := false }

/-- The default schedule (R8). -/
def Schedule.default : Schedule :=
  { period := 1024, prescaler := 8, count := 0, windows := tabulate fun _ => Window.default }

/-- An occurrence record as a reset clears it (R17). -/
def Occurrence.cleared : Occurrence :=
  { isOpen := false, remaining := 0, unlimited := false, spent := false, charged := 0, lent := 0 }

/-- A usage record as a reset or a schedule switch clears it (R21). -/
def Usage.cleared : Usage := { charged := 0, lent := 0, spent := false }

/-- The default port settings (Table 19). -/
def Settings.default : Settings :=
  { weight := 0, startLevel := .one, ageLimit := 0, inFlightLimit := 8, posted := false }

/-- All four counters at 0 (R156). -/
def Counters.zero : Counters := { windowBeats := 0, bidBeats := 0, refused := 0, timeouts := 0 }

/-- The default rule record (Table 31). -/
def Rule.default : Rule :=
  { enabled := false, firstBlock := 0, lastBlock := 0, portMask := 0, kinds := .read,
    action := .pass }

/-- The state a reset leaves a port in, by the level of its reset input (R141). -/
def PortMode.afterReset (resetInput : Bool) : PortMode :=
  if resetInput then .inReset .active false else .active

/-- A port after device reset or soft reset, by the level of its reset input (R141). -/
def Port.afterReset (resetInput : Bool) : Port :=
  { mode := PortMode.afterReset resetInput, resetInput := resetInput,
    settings := Settings.default, queue := [], replies := [], nextSequence := 0,
    counters := Counters.zero }

/-- The part right after the release of device reset, with link ready and the port reset inputs not
asserted (log 4) and no command waiting. -/
def State.reset : State :=
  { pending := []
    draws := 0
    deviceReset := false
    linkReady := false
    clocks := 0
    tickCount := 0
    frameTick := 0
    frameNumber := 0
    active := Schedule.default
    staged := Schedule.default
    commitPending := false
    occurrences := tabulate fun _ => Occurrence.cleared
    usage := tabulate fun _ => Usage.cleared
    ports := tabulate fun _ => Port.afterReset false
    threshold := 0
    slots := tabulate fun _ => Slot.free
    completion := .awaitHeader
    rules := tabulate fun _ => Rule.default
    defaultAction := .pass
    deadline := 4096
    link := .restarting
    events := []
    dropCount := 0
    holder := none
    enables := tabulate fun _ => true
    frame := .unselected }

end Sys2Proof.Machine
end

