-- ==== Sys2Proof/Machine/Ops.lean ====
section
/-! DEFINITION. The operations the meanings share: reaching one port, slot or window; the counts the
spec defines over the slots and the stores; forming and offering an event record; settling a reply
entry and beginning a delivery; the drain check; orphaning a slot; the posted writes a reset loses. -/

namespace Sys2Proof.Machine

/-! ### Reaching one thing of a row -/

/-- Port `p`. -/
def State.port (s : State) (p : PortId) : Port := look s.ports p

/-- The state with port `p` changed by `f`. -/
def State.withPort (s : State) (p : PortId) (f : Port → Port) : State :=
  { s with ports := put s.ports p (f (s.port p)) }

/-- Slot `i` of the outstanding table. -/
def State.slot (s : State) (i : SlotId) : Slot := look s.slots i

/-- The state with slot `i` holding `x`. -/
def State.withSlot (s : State) (i : SlotId) (x : Slot) : State :=
  { s with slots := put s.slots i x }

/-- The occurrence record of window index `w` (Table 8). -/
def State.occurrence (s : State) (w : WindowId) : Occurrence := look s.occurrences w

/-- The state with the occurrence record of window index `w` changed by `f`. -/
def State.withOccurrence (s : State) (w : WindowId) (f : Occurrence → Occurrence) : State :=
  { s with occurrences := put s.occurrences w (f (s.occurrence w)) }

/-- Window `w` of a schedule. -/
def Schedule.window (sch : Schedule) (w : WindowId) : Window := look sch.windows w

/-- Window `w` is in use: its index is below the window count (Table 5). -/
def Schedule.inUse (sch : Schedule) (w : WindowId) : Bool := decide (w.val < sch.count.toNat)

/-! ### The slots and their counts -/

/-- The command a slot holds, absent when it is FREE (Table 21). -/
def Slot.command? : Slot → Option Command
  | .free => none
  | .sending c _ _ _ => some c
  | .issued c _ => some c
  | .receiving c _ _ => some c
  | .orphaned c => some c

/-- The command of a slot in SENDING, ISSUED or RECEIVING: the states an in-flight count counts
(R47). -/
def Slot.inFlight? : Slot → Option Command
  | .free => none
  | .sending c _ _ _ => some c
  | .issued c _ => some c
  | .receiving c _ _ => some c
  | .orphaned _ => none

/-- The command of a slot that holds a reply link: SENDING with its orphan mark clear, ISSUED or
RECEIVING, when the posted mark is clear (Table 21). -/
def Slot.replyLink? : Slot → Option Command
  | .free => none
  | .sending c _ _ mark => if c.posted || mark then none else some c
  | .issued c _ => if c.posted then none else some c
  | .receiving c _ _ => if c.posted then none else some c
  | .orphaned _ => none

/-- The slot holds no command (R65). -/
def Slot.isFree : Slot → Bool
  | .free => true
  | .sending _ _ _ _ => false
  | .issued _ _ => false
  | .receiving _ _ _ => false
  | .orphaned _ => false

/-- The slot is in SENDING (R65). -/
def Slot.isSending : Slot → Bool
  | .sending _ _ _ _ => true
  | .free => false
  | .issued _ _ => false
  | .receiving _ _ _ => false
  | .orphaned _ => false

/-- The slot is ORPHANED (R65). -/
def Slot.isOrphaned : Slot → Bool
  | .orphaned _ => true
  | .free => false
  | .sending _ _ _ _ => false
  | .issued _ _ => false
  | .receiving _ _ _ => false

/-- The slot holds a command of port `p` in SENDING, ISSUED or RECEIVING. -/
def Slot.inFlightFor (p : PortId) (x : Slot) : Bool :=
  match x.inFlight? with
  | some c => decide (c.port = p)
  | none => false

/-- The in-flight count of port `p` (R67). -/
def State.inFlightCount (s : State) (p : PortId) : Nat := s.slots.toList.countP (Slot.inFlightFor p)

/-- The orphaned slot count (R120). -/
def State.orphanedCount (s : State) : Nat := s.slots.toList.countP Slot.isOrphaned

/-- The lowest-numbered FREE slot (R66). -/
def State.lowestFree (s : State) : Option SlotId :=
  (List.finRange 32).find? fun i => (s.slot i).isFree

/-- The slot in SENDING, whose command is on the command channel (R65). -/
def State.sendingSlot (s : State) : Option SlotId :=
  (List.finRange 32).find? fun i => (s.slot i).isSending

/-- The command channel is idle: no slot is in SENDING (R43). -/
def State.channelIdle (s : State) : Bool := s.sendingSlot.isNone

/-! ### The write store and the read store -/

/-- The beats of a write store share, 0 where it is absent (R37). -/
def shareBeats (share : Option (List WriteBeat)) : Nat :=
  match share with
  | some beats => beats.length
  | none => 0

/-- The write store beats a queued request holds (Table 12). -/
def QueuedRequest.writeBeats (q : QueuedRequest) : Nat := shareBeats q.share

/-- The write store beats a port's queue holds. -/
def Port.writeBeats (r : Port) : Nat := (r.queue.map QueuedRequest.writeBeats).sum

/-- The write store beats a slot holds: those of a WRITE in SENDING (Table 21). -/
def Slot.writeBeats : Slot → Nat
  | .sending _ share _ _ => shareBeats share
  | .free => 0
  | .issued _ _ => 0
  | .receiving _ _ _ => 0
  | .orphaned _ => 0

/-- The write store beats in use (R37). -/
def State.writeStoreUsed (s : State) : Nat :=
  (s.ports.toList.map Port.writeBeats).sum + (s.slots.toList.map Slot.writeBeats).sum

/-- The free beats of the write store (R26). -/
def State.writeStoreFree (s : State) : Nat := Config.writeStoreBeats - s.writeStoreUsed

/-- The read store beats a slot reserves: those of a READ in SENDING, ISSUED or RECEIVING (R82). -/
def Slot.readBeats (x : Slot) : Nat :=
  match x.inFlight? with
  | some c => if c.kind = .read then c.length else 0
  | none => 0

/-- The read data a reply entry holds (Table 26). -/
def EntryState.data : EntryState → List BeatData
  | .waiting => []
  | .pending _ => []
  | .ready _ data => data
  | .delivering _ data _ => data

/-- The read store beats a port's replies hold (R82). -/
def Port.readBeats (r : Port) : Nat := (r.replies.map fun e => e.state.data.length).sum

/-- The read store beats in use (R82). -/
def State.readStoreUsed (s : State) : Nat :=
  (s.slots.toList.map Slot.readBeats).sum + (s.ports.toList.map Port.readBeats).sum

/-- The free beats of the read store (R48). -/
def State.readStoreFree (s : State) : Nat := Config.readStoreBeats - s.readStoreUsed

/-! ### Event records -/

/-- The kind code of an occurrence, 0 to 12 (Table 62). -/
def Occasion.kindCode : Occasion → Fin 13
  | .ruleHit _ _ _ _ _ _ => 0
  | .malformedRequest _ _ _ => 1
  | .budgetSpent _ _ => 2
  | .scheduleSwitched => 3
  | .timeout _ _ _ _ _ => 4
  | .lateCompletion _ _ _ _ _ => 5
  | .strayHeader _ _ _ => 6
  | .strayBeats => 6
  | .completionMismatch _ _ _ _ => 7
  | .memoryFault _ _ _ _ => 8
  | .postedWriteFailed _ _ _ _ _ => 9
  | .portHalted _ _ => 10
  | .linkDown _ => 11
  | .linkUp => 12

/-- Form a record of an occurrence at the present frame number and frame tick, and offer it to the
event queue if its kind is enabled (R145, R147, R148, R149). -/
def State.record (s : State) (o : Occasion) : State :=
  if look s.enables o.kindCode then
    if s.events.length < Config.eventCapacity then
      { s with events := s.events ++ [{ frameNumber := s.frameNumber, frameTick := s.frameTick,
                                        occasion := o }] }
    else
      { s with dropCount := min Config.dropLimit (s.dropCount + 1) }
  else s

/-- Form records of several occurrences, in order (R148). -/
def State.recordAll (s : State) (os : List Occasion) : State := os.foldl State.record s

/-! ### Reply entries -/

/-- Begin the delivery of the head entry if it is READY (R97). -/
def beginDelivery : List ReplyEntry → List ReplyEntry
  | [] => []
  | e :: es =>
    match e.state with
    | .ready status data => { e with state := .delivering status data 0 } :: es
    | .waiting => e :: es
    | .pending _ => e :: es
    | .delivering _ _ _ => e :: es

/-- Settle the entry of port `p` that `isIt` picks out, with its status and data, and begin its
delivery if it is the head (R94, R97). -/
def State.settle (s : State) (p : PortId) (isIt : ReplyEntry → Bool) (status : ReplyStatus)
    (data : List BeatData) : State :=
  s.withPort p fun r =>
    { r with
      replies := beginDelivery
        (updateFirst isIt (fun e => { e with state := .ready status data }) r.replies) }

/-- The entry is the one that slot `i`, holding `c`, will settle (Tables 21 and 26). -/
def linkedToSlot (i : SlotId) (c : Command) (e : ReplyEntry) : Bool :=
  decide (e.sequence = c.sequence) && decide (e.state = .pending i)

/-- The entry is the one that a queued request with this sequence will settle (Tables 12 and 26). -/
def linkedToQueue (sequence : Sequence) (e : ReplyEntry) : Bool :=
  decide (e.sequence = sequence) && decide (e.state = .waiting)

/-- Settle the entry that slot `i`, holding `c`, is linked to. A posted write has no link (R96). -/
def State.settleSlot (s : State) (i : SlotId) (c : Command) (status : ReplyStatus)
    (data : List BeatData) : State :=
  if c.posted then s else s.settle c.port (linkedToSlot i c) status data

/-- Port `p` halts if it is DRAINING with its queue and its reply list empty (R135). -/
def State.drainCheck (s : State) (p : PortId) : State :=
  if (s.port p).mode = .draining ∧ (s.port p).queue = [] ∧ (s.port p).replies = [] then
    (s.withPort p fun r => { r with mode := .halted }).record (.portHalted p .drained)
  else s

/-! ### Orphaning, and what a reset loses -/

/-- Orphan slot `i` if it is ISSUED or RECEIVING. Its deadline count, its reply link and its
reservation go with its state, and a DATA for it becomes DISCARD (R79). -/
def State.orphan (s : State) (i : SlotId) : State :=
  match s.slot i with
  | .issued c _ => s.withSlot i (.orphaned c)
  | .receiving c _ _ =>
    { (s.withSlot i (.orphaned c)) with
      completion := if s.completion = .data i then .discard (some i) else s.completion }
  | .free => s
  | .sending _ _ _ _ => s
  | .orphaned _ => s

/-- The loss of a posted write still in the queue of port `p` (R36, R146). -/
def QueuedRequest.loss (p : PortId) (cause : LossCause) (q : QueuedRequest) : Option Occasion :=
  if q.posted then some (.postedWriteFailed p none q.block q.sequence cause) else none

/-- The losses of the posted writes in the queue of port `p`, oldest first (R148). -/
def State.queueLosses (s : State) (p : PortId) (cause : LossCause) : List Occasion :=
  (s.port p).queue.filterMap (QueuedRequest.loss p cause)

/-- The loss of a posted write that slot `i` holds in SENDING or ISSUED (R85, R87, R146). -/
def Slot.loss (i : SlotId) (cause : LossCause) : Slot → Option Occasion
  | .sending c _ _ _ =>
    if c.posted then some (.postedWriteFailed c.port (some i) c.block c.sequence cause) else none
  | .issued c _ =>
    if c.posted then some (.postedWriteFailed c.port (some i) c.block c.sequence cause) else none
  | .free => none
  | .receiving _ _ _ => none
  | .orphaned _ => none

/-- The losses of the posted writes in slots, in rising order of slot number (R122, R154). -/
def State.slotLosses (s : State) (cause : LossCause) : List Occasion :=
  (List.finRange 32).filterMap fun i => (s.slot i).loss i cause

/-- The posted writes a device reset or soft reset loses, in the order of R154. -/
def State.resetLosses (s : State) : List Occasion :=
  s.slotLosses .deviceReset
    ++ (List.finRange 4).flatMap fun p => s.queueLosses p .deviceReset

end Sys2Proof.Machine
end

