-- ==== Sys2Proof/Machine/Operands.lean ====
section
/-! DEFINITION. What a request record says (spec/02: its block, beat offset, kind, length and form)
and the address a command carries. -/

namespace Sys2Proof

/-- The block number of an address in beat units (R24). -/
def BeatAddress.block (a : BeatAddress) : Block := BitVec.ofNat 34 (a.toNat / 8)

/-- The beat offset of an address in beat units (R24). -/
def BeatAddress.offset (a : BeatAddress) : Fin 8 := ⟨a.toNat % 8, Nat.mod_lt _ (by decide)⟩

/-- The address in beat units of a beat of a block (R68). -/
def Block.address (b : Block) (offset : Fin 8) : BeatAddress :=
  BitVec.ofNat 37 (b.toNat * 8 + offset.val)

/-- The kind of a request (Table 10). -/
def Request.kind (r : Request) : Kind :=
  match r.body with
  | .read _ => .read
  | .write _ => .write

/-- The length field of a request: for a WRITE, the number of its data beats (R23). -/
def Request.length (r : Request) : Nat :=
  match r.body with
  | .read length => length.val
  | .write beats => beats.length

/-- The write store share a queued request would hold: the data beats of a WRITE (R38). -/
def Request.share (r : Request) : Option (List WriteBeat) :=
  match r.body with
  | .read _ => none
  | .write beats => some beats

/-- The block a request names (R24). -/
def Request.block (r : Request) : Block := r.address.block

/-- The beat offset of a request (R24). -/
def Request.offset (r : Request) : Fin 8 := r.address.offset

/-- A request is malformed when its length is 0, is greater than 8, or reaches past the end of its
block (R28). -/
def Request.malformed (r : Request) : Bool :=
  decide (r.length = 0) || decide (Config.blockBeats < r.length)
    || decide (Config.blockBeats < r.offset.val + r.length)

end Sys2Proof

namespace Sys2Proof.Machine

/-- The number a start level stands for (Table 19). -/
def StartLevel.depth : StartLevel → Nat
  | .one => 1
  | .four => 4
  | .eight => 8
  | .sixteen => 16

/-- The start level written as a number (Table 58). -/
def StartLevel.ofNumber (n : Nat) : Option StartLevel :=
  if n = 1 then some .one
  else if n = 4 then some .four
  else if n = 8 then some .eight
  else if n = 16 then some .sixteen
  else none

/-- The items of a command: its header, and the beats of a write store share (Table 22). -/
def commandItems (share : Option (List WriteBeat)) : Nat := 1 + shareBeats share

/-- The items of a reply: its header, and its data beats (Table 29). -/
def replyItems (data : List BeatData) : Nat := 1 + data.length

/-- The prescalers of a valid schedule (Table 5). -/
def validPrescalers : List Nat := [1, 2, 4, 8, 16, 32, 64, 128]

end Sys2Proof.Machine
end

