-- ==== Sys2Proof/Machine/Flags.lean ====
section
/-! DEFINITION. The outputs of the part, each computed from State: ALERT (R150), link restart
(R121), the item offered on the command channel (R68, Table 22), the item offered on each response
channel (R98, Table 29), and the data out line of the management port (R157). -/

namespace Sys2Proof.Machine

/-- The link is up (R43, R121). -/
def State.linkIsUp (s : State) : Bool := decide (s.link = .up)

/-- The ALERT output (R150). -/
def State.alert (s : State) : Bool := !s.events.isEmpty

/-- The link restart output (R121). -/
def State.linkRestartOutput (s : State) : Bool := decide (s.link = .restarting)

/-- An item of a command (Table 22). -/
inductive CommandItem where
  | header (slot : SlotId) (kind : Kind) (address : BeatAddress) (length : Nat)
  | beat (beat : WriteBeat)
  deriving DecidableEq, Repr

/-- The item the command channel offers: the header, then the beats of the share in order (R68). It
offers nothing while device reset is asserted (R87). -/
def State.commandOffered (s : State) : Option CommandItem :=
  if s.deviceReset then none else
    match s.sendingSlot with
    | none => none
    | some i =>
      match s.slot i with
      | .sending c share taken _ =>
        if taken = 0 then some (.header i c.kind (c.block.address c.offset) c.length)
        else (share.getD [])[taken - 1]?.map .beat
      | .free => none
      | .issued _ _ => none
      | .receiving _ _ _ => none
      | .orphaned _ => none

/-- An item of a reply (Table 29). -/
inductive ReplyItem where
  | header (tag : Tag) (kind : Kind) (status : ReplyStatus)
  | beat (data : BeatData) (last : Bool)
  deriving DecidableEq, Repr

/-- The item the response channel of port `p` offers: that of its DELIVERING head (R97, R98). It
offers nothing while device reset is asserted (R89). -/
def State.replyOffered (s : State) (p : PortId) : Option ReplyItem :=
  if s.deviceReset then none else
    match (s.port p).replies with
    | [] => none
    | e :: _ =>
      match e.state with
      | .delivering status data taken =>
        if taken = 0 then some (.header e.tag e.kind status)
        else data[taken - 1]?.map fun d => .beat d (decide (taken = data.length))
      | .waiting => none
      | .pending _ => none
      | .ready _ _ => none

/-- The code of a result (Table 54). -/
def ResultCode.code : ResultCode → Byte
  | .done => 0x00
  | .empty => 0x01
  | .badObject => 0x02
  | .badField => 0x03
  | .badValue => 0x04
  | .readOnly => 0x05
  | .stagedLocked => 0x06
  | .notAllowed => 0x07
  | .badPeriod => 0x10
  | .badPrescaler => 0x11
  | .badCount => 0x12
  | .windowPastPeriod => 0x13
  | .windowOrder => 0x14
  | .guardOverlap => 0x15

/-- Bytes 8 to 12 of a frame, byte 8 first (Table 52). -/
def Result.bytes (r : Result) : BitVec 40 := r.code.code ++ r.value

/-- The data out line, as the falling edge after the present rising edge leaves it: not driven in
UNSELECTED, 0 in COMMAND and OVERRUN, and in ANSWER the next bit of the result, most significant
first (R157, Table 44, log 7). -/
def State.dataOut (s : State) : Option Bool :=
  match s.frame with
  | .unselected => none
  | .command _ => some false
  | .answer bitCount result => some (result.bytes.getMsbD (bitCount - Config.commandBits))
  | .overrun => some false

/-- The code of a port state (Table 60). -/
def PortMode.code : PortMode → Nat
  | .active => 0
  | .draining => 1
  | .halted => 2
  | .inReset _ _ => 3

/-- The code of a link state (Table 60). -/
def LinkState.code : LinkState → Nat
  | .up => 0
  | .down => 1
  | .restarting => 2

end Sys2Proof.Machine
end

