-- ==== Sys2Proof/Machine/Schedule.lean ====
section
/-! DEFINITION. The schedule (spec/01): positions, validity, the opening and closing of windows, the
schedule switch and the frame start. -/

namespace Sys2Proof.Machine

/-! ### Positions -/

/-- Where the frame tick stands in the active schedule (R6). -/
inductive Position where
  | guard (w : WindowId)
  | window (w : WindowId)
  | unreserved
  deriving DecidableEq, Repr

/-- The frame tick at which window `w` opens (Table 6). -/
def Schedule.opensAt (sch : Schedule) (w : WindowId) : Nat := (sch.window w).start.toNat

/-- The frame tick after the last one of window `w` (Table 6). -/
def Schedule.closesAt (sch : Schedule) (w : WindowId) : Nat :=
  (sch.window w).start.toNat + (sch.window w).length.toNat

/-- The guard ticks of window `w` (Table 6). -/
def Schedule.guardTicks (sch : Schedule) (w : WindowId) : Nat := (sch.window w).guard.toNat

/-- The frame tick lies in the guard interval of window `w`, which is in use (R6). -/
def Schedule.inGuard (sch : Schedule) (tick : Nat) (w : WindowId) : Bool :=
  sch.inUse w && decide (sch.opensAt w ≤ tick + sch.guardTicks w)
    && decide (tick < sch.opensAt w)

/-- The frame tick lies in window `w`, which is in use (R6). -/
def Schedule.inWindow (sch : Schedule) (tick : Nat) (w : WindowId) : Bool :=
  sch.inUse w && decide (sch.opensAt w ≤ tick) && decide (tick < sch.closesAt w)

/-- The position of a frame tick (R6). -/
def Schedule.position (sch : Schedule) (tick : Nat) : Position :=
  match (List.finRange 8).find? (sch.inGuard tick) with
  | some w => .guard w
  | none =>
    match (List.finRange 8).find? (sch.inWindow tick) with
    | some w => .window w
    | none => .unreserved

/-- The position the frame timer presents to the grant arbiter (R6). -/
def State.position (s : State) : Position := s.active.position s.frameTick

/-! ### Validity -/

/-- The window before window `w`, when `w` is not 0. -/
def windowBefore (w : WindowId) : WindowId := ⟨w.val - 1, by omega⟩

/-- The first window in use at which a row of Table 7 fails, in rising order of index (R163). -/
def Schedule.firstFailing (sch : Schedule) (fails : WindowId → Bool) : Option WindowId :=
  (List.finRange 8).find? fun w => sch.inUse w && fails w

/-- Row 4 of Table 7 fails at window `w`. -/
def Schedule.pastPeriod (sch : Schedule) (w : WindowId) : Bool :=
  decide (sch.period.toNat < sch.closesAt w)

/-- Row 5 of Table 7 fails at window `w`. -/
def Schedule.outOfOrder (sch : Schedule) (w : WindowId) : Bool :=
  decide (1 ≤ w.val) && decide (sch.opensAt w ≤ sch.opensAt (windowBefore w))

/-- Row 6 of Table 7 fails at window `w`. -/
def Schedule.guardMeetsWindow (sch : Schedule) (w : WindowId) : Bool :=
  decide (1 ≤ w.val)
    && decide (sch.opensAt w < sch.guardTicks w + sch.closesAt (windowBefore w))

/-- Row 7 of Table 7 fails: window 0 is in use and its guard begins before frame tick 0. -/
def Schedule.guardBeforeFrame (sch : Schedule) : Bool :=
  sch.inUse 0 && decide (sch.opensAt 0 < sch.guardTicks 0)

/-- The reason code and result value of the first row of Table 7 that fails, if one does (R7, R163). -/
def Schedule.fault (sch : Schedule) : Option Result :=
  if sch.period.toNat < 64 then some ⟨.badPeriod, 0⟩
  else if sch.prescaler.toNat ∉ validPrescalers then some ⟨.badPrescaler, 0⟩
  else if 8 < sch.count.toNat then some ⟨.badCount, 0⟩
  else match sch.firstFailing sch.pastPeriod with
    | some w => some ⟨.windowPastPeriod, BitVec.ofNat 32 w.val⟩
    | none => match sch.firstFailing sch.outOfOrder with
      | some w => some ⟨.windowOrder, BitVec.ofNat 32 w.val⟩
      | none => match sch.firstFailing sch.guardMeetsWindow with
        | some w => some ⟨.guardOverlap, BitVec.ofNat 32 w.val⟩
        | none => if sch.guardBeforeFrame then some ⟨.guardOverlap, 0⟩ else none

/-! ### Window occurrences -/

/-- The occurrence record of a window at its opening, by its budget (R15). -/
def Occurrence.opened (budget : BitVec 12) : Occurrence :=
  { isOpen := true, remaining := budget.toNat, unlimited := decide (budget = 0), spent := false,
    charged := 0, lent := 0 }

/-- The usage record that the closing of an occurrence writes (R16). -/
def Occurrence.usage (o : Occurrence) : Usage :=
  { charged := o.charged, lent := o.lent, spent := o.spent }

/-- The windows in use whose end is this frame tick close (R16). -/
def State.closeWindows (s : State) (tick : Nat) : State :=
  { s with
    usage := tabulate fun w =>
      if s.active.inUse w && decide (s.active.closesAt w = tick) then (s.occurrence w).usage
      else look s.usage w
    occurrences := tabulate fun w =>
      if s.active.inUse w && decide (s.active.closesAt w = tick) then
        { s.occurrence w with isOpen := false }
      else s.occurrence w }

/-- The windows in use whose start is this frame tick open (R15). -/
def State.openWindows (s : State) (tick : Nat) : State :=
  { s with
    occurrences := tabulate fun w =>
      if s.active.inUse w && decide (s.active.opensAt w = tick) then
        Occurrence.opened (s.active.window w).budget
      else s.occurrence w }

/-- The schedule switch of a frame start, its SCHEDULE_SWITCHED record included (R12). -/
def State.switchSchedule (s : State) : State :=
  { s with
    active := s.staged
    commitPending := false
    usage := tabulate fun _ => Usage.cleared }.record .scheduleSwitched

/-- A frame start, in the order of R14. -/
def State.frameStart (s : State) : State :=
  let closed := s.closeWindows s.active.period.toNat
  let started := { closed with frameTick := 0, frameNumber := closed.frameNumber + 1 }
  let switched := if started.commitPending then started.switchSchedule else started
  switched.openWindows 0

/-- The frame tick advances, or a frame starts (R3). Windows close before windows open (R15). -/
def State.advanceFrame (s : State) : State :=
  if s.frameTick + 1 < s.active.period.toNat then
    let moved := { s with frameTick := s.frameTick + 1 }
    (moved.closeWindows moved.frameTick).openWindows moved.frameTick
  else s.frameStart

/-! ### Charging an occurrence -/

/-- A count of beats with `n` more, stopping at 65535 (Table 8). -/
def addBeats (count n : Nat) : Nat := min Config.beatCountLimit (count + n)

/-- The charge of a window grant of `n` beats, made only while the occurrence is open (R18). -/
def Occurrence.charge (n : Nat) (o : Occurrence) : Occurrence :=
  if o.isOpen then
    { o with
      charged := addBeats o.charged n
      remaining := if o.unlimited then o.remaining else o.remaining - n }
  else o

/-- The count of a lent grant of `n` beats, made only while the occurrence is open (R20). -/
def Occurrence.lend (n : Nat) (o : Occurrence) : Occurrence :=
  if o.isOpen then { o with lent := addBeats o.lent n } else o

/-- The mark of a spent budget, with its BUDGET_SPENT record, once per occurrence (R19). -/
def State.markSpent (s : State) (w : WindowId) : State :=
  if (s.occurrence w).isOpen && !(s.occurrence w).spent then
    (s.withOccurrence w fun o => { o with spent := true }).record
      (.budgetSpent (s.active.window w).owner w)
  else s

end Sys2Proof.Machine
end

