-- ==== Sys2Proof/Machine/Arbiter.lean ====
section
/-! DEFINITION. The grant arbiter (spec/03): when it decides, which heads are grantable, windows and
bids, the spent mark of a decision, and GRANT. -/

namespace Sys2Proof.Machine

/-! ### Grantable heads -/

/-- The three conditions under which a grant decision is taken (R43). -/
def State.mayDecide (s : State) : Bool :=
  s.linkIsUp && s.channelIdle && s.lowestFree.isSome

/-- The slot holds the block, and the slot and the head are not both reads (R46). -/
def Slot.conflicts (block : Block) (kind : Kind) (x : Slot) : Bool :=
  match x.command? with
  | some c => decide (c.block = block) && !(decide (c.kind = .read) && decide (kind = .read))
  | none => false

/-- Some slot fails a request of this block and kind in the conflict check (R46). -/
def State.conflict (s : State) (block : Block) (kind : Kind) : Bool :=
  s.slots.toList.any (Slot.conflicts block kind)

/-- The port states in which a head is grantable (R45). -/
def PortMode.grants : PortMode → Bool
  | .active => true
  | .draining => true
  | .halted => false
  | .inReset _ _ => false

/-- A request passes the tests of a head of port `p` (Table 14). -/
def State.passes (s : State) (p : PortId) (q : QueuedRequest) : Bool :=
  (s.port p).mode.grants
    && !s.conflict q.block q.kind
    && decide (s.inFlightCount p < (s.port p).settings.inFlightLimit)
    && (decide (q.kind = .write) || decide (q.length ≤ s.readStoreFree))

/-- The grantable head of port `p`, if it has one (R45). -/
def State.grantableHead (s : State) (p : PortId) : Option QueuedRequest :=
  match (s.port p).queue with
  | [] => none
  | q :: _ => if s.passes p q then some q else none

/-! ### Bids -/

/-- The age of a request: the 32-bit difference from its arrival tick (R56). -/
def State.age (s : State) (q : QueuedRequest) : Nat := (s.tickCount - q.arrivalTick).toNat

/-- A head of port `p` is urgent (R56). -/
def State.urgent (s : State) (p : PortId) (q : QueuedRequest) : Bool :=
  decide ((s.port p).settings.ageLimit ≠ 0)
    && decide ((s.port p).settings.ageLimit.toNat ≤ s.age q)

/-- The bid value of a port (R57). -/
def bidValue (urgent : Bool) (weight depth port : Nat) : Nat :=
  2048 * urgent.toNat + 128 * weight + 4 * depth + port

/-- The bid of port `p`, if it bids (R55, R57). -/
def State.bid (s : State) (p : PortId) : Option Nat :=
  match s.grantableHead p with
  | none => none
  | some q =>
    let depth := (s.port p).queue.length
    if decide ((s.port p).settings.startLevel.depth ≤ depth) || s.urgent p q then
      some (bidValue (s.urgent p q) (s.port p).settings.weight.toNat depth p.val)
    else none

/-- The bid of port `p`, if it enters the decision (R58). -/
def State.enteringBid (s : State) (p : PortId) : Option Nat :=
  match s.bid p with
  | some v => if s.threshold.toNat < v then some v else none
  | none => none

/-- The better of the best bid so far and the bid of port `p` (R58). -/
def State.betterBid (s : State) (best : Option (PortId × Nat)) (p : PortId) :
    Option (PortId × Nat) :=
  match s.enteringBid p, best with
  | none, _ => best
  | some v, none => some (p, v)
  | some v, some (q, w) => if w < v then some (p, v) else some (q, w)

/-- The port whose entering bid is the highest, if a bid enters (R58). -/
def State.bidWinner (s : State) : Option PortId :=
  ((List.finRange 4).foldl s.betterBid none).map Prod.fst

/-! ### The decision -/

/-- How a port comes to be granted (Table 15). -/
inductive Course where
  | byWindow (w : WindowId)
  | lent (w : WindowId)
  | byBid
  deriving DecidableEq, Repr

/-- The budget of the occurrence is not enough for a head of this length (R51, R52). -/
def Occurrence.tooSmallFor (o : Occurrence) (length : Nat) : Bool :=
  !o.unlimited && decide (o.remaining < length)

/-- The window grant that position WINDOW `w` makes, if it makes one (R51). -/
def State.windowGrant (s : State) (w : WindowId) : Option PortId :=
  match s.grantableHead (s.active.window w).owner with
  | some q =>
    if (s.occurrence w).tooSmallFor q.length then none else some (s.active.window w).owner
  | none => none

/-- The port the decision names, and how, if it names one (R50, R51, R53, R54). -/
def State.decision (s : State) : Option (PortId × Course) :=
  match s.position with
  | .guard _ => none
  | .window w =>
    match s.windowGrant w with
    | some p => some (p, .byWindow w)
    | none => if (s.active.window w).lend then s.bidWinner.map fun p => (p, .lent w) else none
  | .unreserved => s.bidWinner.map fun p => (p, .byBid)

/-- The window whose budget the decision finds too small for its owner's grantable head (R52). -/
def State.shortWindow (s : State) : Option WindowId :=
  match s.position with
  | .guard _ => none
  | .window w =>
    match s.grantableHead (s.active.window w).owner with
    | some q => if (s.occurrence w).tooSmallFor q.length then some w else none
    | none => none
  | .unreserved => none

/-- A grant decision taken on the state, less the grant it may name: the spent mark it asks for, if
the conditions of R43 hold (R43, R52, log 5). -/
def State.takeDecision (s : State) : State :=
  if s.mayDecide then
    match s.shortWindow with
    | some w => s.markSpent w
    | none => s
  else s

/-- The decision taken again after an event of the memory port, if the event changed the slots,
which the decision reads (R43). -/
def State.decideAfter (t s : State) : State := if t.slots = s.slots then t else t.takeDecision

/-! ### The grant -/

/-- The counters of a granted port, by the course of the grant (R59, Table 43). -/
def Counters.grant (course : Course) (length : Nat) (c : Counters) : Counters :=
  match course with
  | .byWindow _ => { c with windowBeats := c.windowBeats + BitVec.ofNat 32 length }
  | .lent _ => { c with bidBeats := c.bidBeats + BitVec.ofNat 32 length }
  | .byBid => { c with bidBeats := c.bidBeats + BitVec.ofNat 32 length }

/-- The charge or count a grant makes in the occurrence of its window (R18, R20, R54). -/
def State.account (s : State) (course : Course) (length : Nat) : State :=
  match course with
  | .byWindow w => s.withOccurrence w (Occurrence.charge length)
  | .lent w => s.withOccurrence w (Occurrence.lend length)
  | .byBid => s

/-- The command of a granted request (R66). -/
def QueuedRequest.command (p : PortId) (q : QueuedRequest) : Command :=
  { port := p, kind := q.kind, block := q.block, offset := q.offset, length := q.length,
    sequence := q.sequence, posted := q.posted }

/-- The reply list of a port at the grant of `q` to slot `i`: the linked entry becomes PENDING, and
a posted write has none (R93). -/
def QueuedRequest.granted (q : QueuedRequest) (i : SlotId) (replies : List ReplyEntry) :
    List ReplyEntry :=
  if q.posted then replies
  else updateFirst (linkedToQueue q.sequence) (fun e => { e with state := .pending i }) replies

/-- Port `p` without its head `q`, which goes to slot `i` (R35, R59). -/
def Port.granted (q : QueuedRequest) (rest : List QueuedRequest) (i : SlotId) (course : Course)
    (r : Port) : Port :=
  { r with
    queue := rest
    replies := q.granted i r.replies
    counters := r.counters.grant course q.length }

/-- The grant of port `p`'s head to the lowest FREE slot, as one whole (R59). -/
def State.grant (s : State) (p : PortId) (course : Course) : State :=
  match s.lowestFree, (s.port p).queue with
  | some i, q :: rest =>
    ((((s.withPort p (Port.granted q rest i course)).withSlot i
      (.sending (q.command p) q.share 0 false)).account course q.length).drainCheck p)
  | some _, [] => s
  | none, _ => s

/-- GRANT (R59): a grant decision on the present state, and the grant if it names a port. While the
conditions of R43 fail no decision is taken. -/
def execGrant (s : State) : Host.Outcome State Fault Refusal :=
  if s.mayDecide then
    match s.decision with
    | some (p, course) => .next (s.takeDecision.grant p course)
    | none => .next s.takeDecision
  else .next s

end Sys2Proof.Machine
end

