-- ==== Sys2Proof/Machine/Acceptance.lean ====
section
/-! DEFINITION. Access rules (spec/06) and request acceptance (spec/02): ARRIVAL. -/

namespace Sys2Proof.Machine

/-! ### Access rules -/

/-- The rule's kinds cover a request kind (R107). -/
def RuleKinds.covers : RuleKinds → Kind → Bool
  | .read, .read => true
  | .read, .write => false
  | .write, .read => false
  | .write, .write => true
  | .both, _ => true

/-- The rule covers a request of this port, kind and block (R107). -/
def Rule.covers (r : Rule) (p : PortId) (kind : Kind) (block : Block) : Bool :=
  r.enabled && decide (r.firstBlock ≤ block) && decide (block ≤ r.lastBlock)
    && r.portMask.getLsbD p.val && r.kinds.covers kind

/-- The action refuses (Table 32). -/
def RuleAction.refuses : RuleAction → Bool
  | .pass => false
  | .passReport => false
  | .refuse => true
  | .refuseReport => true

/-- The action reports (Table 32). -/
def RuleAction.reports : RuleAction → Bool
  | .pass => false
  | .passReport => true
  | .refuse => false
  | .refuseReport => true

/-- What the checker hands the acceptance logic: whether the request is refused, and the deciding
rule if its decision is to be reported (R108). -/
structure Verdict where
  refused : Bool
  reportedBy : Option RuleId
  deriving DecidableEq, Repr

/-- The first rule that covers the request, in index order (R108). -/
def State.decidingRule (s : State) (p : PortId) (kind : Kind) (block : Block) : Option RuleId :=
  (List.finRange 8).find? fun k => (look s.rules k).covers p kind block

/-- The decision on a well-formed request of this port, kind and block (R108). -/
def State.verdict (s : State) (p : PortId) (kind : Kind) (block : Block) : Verdict :=
  match s.decidingRule p kind block with
  | some k =>
    { refused := (look s.rules k).action.refuses
      reportedBy := if (look s.rules k).action.reports then some k else none }
  | none => { refused := decide (s.defaultAction = .refuse), reportedBy := none }

/-! ### Taking and holding -/

/-- The three outcomes of the classification of a request (Table 11). -/
inductive Classification where
  | malformed
  | refused (reportedBy : Option RuleId)
  | passed (reportedBy : Option RuleId)
  deriving DecidableEq, Repr

/-- The classification of a request offered on port `p` (R28, R30). -/
def State.classify (s : State) (p : PortId) (r : Request) : Classification :=
  if r.malformed then .malformed
  else if (s.verdict p r.kind r.block).refused then
    .refused (s.verdict p r.kind r.block).reportedBy
  else .passed (s.verdict p r.kind r.block).reportedBy

/-- A request that would be queued finds room in the queue and, for a WRITE, in the write store
(R26). -/
def State.queueRoom (s : State) (p : PortId) (r : Request) : Bool :=
  decide ((s.port p).queue.length < Config.queueCapacity)
    && decide (shareBeats r.share ≤ s.writeStoreFree)

/-- Port `p` takes the request it is offered (R26). -/
def State.takes (s : State) (p : PortId) (r : Request) : Bool :=
  !s.deviceReset && decide ((s.port p).mode = .active)
    && decide ((s.port p).replies.length < Config.replyCapacity)
    && match s.classify p r with
      | .malformed => true
      | .refused _ => true
      | .passed _ => s.queueRoom p r

/-! ### Arrival -/

/-- The port with a reply entry of this state appended for the request, which takes the next
sequence; a READY entry at the head begins its delivery (R91, R92, R97). -/
def Port.appendReply (port : Port) (r : Request) (state : EntryState) : Port :=
  { port with
    replies := beginDelivery (port.replies
      ++ [{ sequence := port.nextSequence, tag := r.tag, kind := r.kind, state := state }])
    nextSequence := port.nextSequence + 1 }

/-- The record of a request queued on a port, posted or not (R31, R32, Table 12). -/
def queuedRecord (r : Request) (tick : Word32) (posted : Bool) (sequence : Sequence) :
    QueuedRequest :=
  { kind := r.kind, block := r.block, offset := r.offset, length := r.length, arrivalTick := tick,
    posted := posted, sequence := sequence, share := r.share }

/-- The request, if passed now, is a posted write of the port (R32). -/
def Port.posts (port : Port) (r : Request) : Bool :=
  decide (r.kind = .write) && port.settings.posted

/-- The port with a passed request queued and its entry appended (R31, R32). -/
def Port.accept (port : Port) (r : Request) (tick : Word32) : Port :=
  { port.appendReply r (if port.posts r then .ready .ok [] else .waiting) with
    queue := port.queue ++ [queuedRecord r tick (port.posts r) port.nextSequence] }

/-- The port with its refused counter increased (R109). -/
def Port.countRefusal (port : Port) : Port :=
  { port with counters := { port.counters with refused := port.counters.refused + 1 } }

/-- The RULE_HIT of a decision that a rule reports (R110). -/
def State.ruleHit (s : State) (p : PortId) (r : Request) (sequence : Sequence) (refused : Bool)
    (reportedBy : Option RuleId) : State :=
  match reportedBy with
  | some k => s.record (.ruleHit p r.block sequence r.kind refused k)
  | none => s

/-- The arrival of a request that port `p` takes, as one whole (R33). -/
def State.arrive (s : State) (p : PortId) (r : Request) : State :=
  let sequence := (s.port p).nextSequence
  match s.classify p r with
  | .malformed =>
    (s.withPort p fun port => port.appendReply r (.ready .malformed [])).record
      (.malformedRequest p r.block sequence)
  | .refused reportedBy =>
    (s.withPort p fun port => (port.appendReply r (.ready .refused [])).countRefusal).ruleHit
      p r sequence true reportedBy
  | .passed reportedBy =>
    ((s.withPort p fun port => port.accept r s.tickCount).ruleHit p r sequence false
      reportedBy).takeDecision

/-- ARRIVAL (R33): the port takes the offered request when R26 allows it, and holds it otherwise. A
held request leaves no trace (R27). -/
def execArrival (p : PortId) (r : Request) (s : State) : Host.Outcome State Fault Refusal :=
  if s.takes p r then .next (s.arrive p r) else .next s

end Sys2Proof.Machine
end

