-- ==== Sys2Proof/Machine/Delivery.lean ====
section
/-! DEFINITION. The delivery of replies (spec/05): REPLY_ITEM_TAKEN and DELIVERY_END. -/

namespace Sys2Proof.Machine

/-- The port with one more item of its delivering head taken (R98). -/
def Port.takeItem (r : Port) : Port :=
  match r.replies with
  | [] => r
  | e :: es =>
    match e.state with
    | .delivering status data taken =>
      { r with replies := { e with state := .delivering status data (taken + 1) } :: es }
    | .waiting => r
    | .pending _ => r
    | .ready _ _ => r

/-- The number of items of the delivering head that are still to be taken, 0 when none is offered
(R97, R98). -/
def Port.itemsLeft (r : Port) : Nat :=
  match r.replies with
  | [] => 0
  | e :: _ =>
    match e.state with
    | .delivering _ data taken => replyItems data - taken
    | .waiting => 0
    | .pending _ => 0
    | .ready _ _ => 0

/-- REPLY_ITEM_TAKEN (R98): the master takes an item of the delivering reply that is not its last.
When no such item is offered nothing is taken (R89, log 3). -/
def execReplyItemTaken (p : PortId) (s : State) : Host.Outcome State Fault Refusal :=
  if s.deviceReset then .next s
  else if 2 ≤ (s.port p).itemsLeft then .next (s.withPort p Port.takeItem)
  else .next s

/-- The delivery end of the head entry of port `p`, as one whole (R99). -/
def State.endDelivery (s : State) (p : PortId) : State :=
  ((s.withPort p fun r => { r with replies := beginDelivery r.replies.tail }).drainCheck
    p).takeDecision

/-- DELIVERY_END (R99): the master takes the last item of the delivering reply. When the item
offered is not the last, or none is, nothing is taken (R89, log 3). -/
def execDeliveryEnd (p : PortId) (s : State) : Host.Outcome State Fault Refusal :=
  if s.deviceReset then .next s
  else if (s.port p).itemsLeft = 1 then .next (s.endDelivery p)
  else .next s

end Sys2Proof.Machine
end

