-- ==== Sys2Proof/Machine/Fields.lean ====
section
/-! DEFINITION. The management objects and their fields (spec/10, Tables 55 to 63): which field an
object code, an index and a field code name, what a READ of it returns, which values a WRITE of it
may store, and what a WRITE stores. -/

namespace Sys2Proof.Machine

/-! ### Objects and fields -/

/-- A management object at an index (Table 55). -/
inductive ObjectRef where
  | identity
  | global
  | port (p : PortId)
  | staged (w : WindowId)
  | active (w : WindowId)
  | usage (w : WindowId)
  | rule (k : RuleId)
  | counters (p : PortId)
  | eventStatus
  | eventHold
  deriving DecidableEq, Repr

/-- The fields of GLOBAL (Table 57). -/
inductive GlobalField where
  | threshold
  | deadline
  | defaultAction
  | linkState
  | orphanedCount
  | enable (kind : Fin 13)
  deriving DecidableEq, Repr

/-- The fields of PORT (Table 58). -/
inductive PortField where
  | weight
  | startLevel
  | ageLimit
  | inFlightLimit
  | postedWrites
  | portState
  | queueDepth
  | replyLength
  | inFlightCount
  | nextSequence
  | headSequence
  deriving DecidableEq, Repr

/-- The schedule-level fields of STAGED and ACTIVE (Table 59). -/
inductive ScheduleField where
  | period
  | prescaler
  | count
  deriving DecidableEq, Repr

/-- The window fields of STAGED and ACTIVE (Table 59). -/
inductive WindowField where
  | owner
  | start
  | length
  | guard
  | budget
  | lend
  deriving DecidableEq, Repr

/-- The fields that ACTIVE alone has (Table 59). -/
inductive TimerField where
  | commitPending
  | frameNumber
  | frameTick
  | tickCount
  deriving DecidableEq, Repr

/-- The fields of USAGE (Table 61). -/
inductive UsageField where
  | charged
  | lent
  | spent
  deriving DecidableEq, Repr

/-- The fields of RULE (Table 61). -/
inductive RuleField where
  | enabled
  | firstHigh
  | firstLow
  | lastHigh
  | lastLow
  | portMask
  | kinds
  | action
  deriving DecidableEq, Repr

/-- The fields of COUNTERS (Table 61). -/
inductive CounterField where
  | windowBeats
  | bidBeats
  | refused
  | timeouts
  deriving DecidableEq, Repr

/-- The fields of EVENT_STATUS (Table 61). -/
inductive StatusField where
  | queueLength
  | dropCount
  deriving DecidableEq, Repr

/-- The fields of EVENT_HOLD (Table 63). -/
inductive HeldField where
  | holding
  | kind
  | presence
  | frameNumber
  | frameTick
  | port
  | slot
  | window
  | blockHigh
  | blockLow
  | sequence
  | status
  | rule
  deriving DecidableEq, Repr

/-- A field of a management object. -/
inductive Field where
  | identity (k : Fin 12)
  | global (f : GlobalField)
  | port (p : PortId) (f : PortField)
  | stagedSchedule (f : ScheduleField)
  | stagedWindow (w : WindowId) (f : WindowField)
  | activeSchedule (f : ScheduleField)
  | activeWindow (w : WindowId) (f : WindowField)
  | timer (f : TimerField)
  | usage (w : WindowId) (f : UsageField)
  | rule (k : RuleId) (f : RuleField)
  | counter (p : PortId) (f : CounterField)
  | status (f : StatusField)
  | held (f : HeldField)
  deriving DecidableEq, Repr

/-- A byte as an index below `n`, if it is one. -/
def indexIn (n : Nat) (b : Byte) : Option (Fin n) :=
  if h : b.toNat < n then some ⟨b.toNat, h⟩ else none

/-- The object that an object code and an index name, if they name one (Table 55, R160). -/
def objectOf (object index : Byte) : Option ObjectRef :=
  if object = 0x00 then (indexIn 1 index).map fun _ => .identity
  else if object = 0x01 then (indexIn 1 index).map fun _ => .global
  else if object = 0x02 then (indexIn 4 index).map .port
  else if object = 0x03 then (indexIn 8 index).map .staged
  else if object = 0x04 then (indexIn 8 index).map .active
  else if object = 0x05 then (indexIn 8 index).map .usage
  else if object = 0x06 then (indexIn 8 index).map .rule
  else if object = 0x07 then (indexIn 4 index).map .counters
  else if object = 0x08 then (indexIn 1 index).map fun _ => .eventStatus
  else if object = 0x09 then (indexIn 1 index).map fun _ => .eventHold
  else none

/-- The GLOBAL field of a code (Table 57). -/
def globalField (code : Byte) : Option GlobalField :=
  if code = 0x00 then some .threshold
  else if code = 0x01 then some .deadline
  else if code = 0x02 then some .defaultAction
  else if code = 0x03 then some .linkState
  else if code = 0x04 then some .orphanedCount
  else if 0x10 ≤ code then (indexIn 13 (code - 0x10)).map .enable
  else none

/-- The PORT field of a code (Table 58). -/
def portField (code : Byte) : Option PortField :=
  if code = 0x00 then some .weight
  else if code = 0x01 then some .startLevel
  else if code = 0x02 then some .ageLimit
  else if code = 0x03 then some .inFlightLimit
  else if code = 0x04 then some .postedWrites
  else if code = 0x08 then some .portState
  else if code = 0x09 then some .queueDepth
  else if code = 0x0A then some .replyLength
  else if code = 0x0B then some .inFlightCount
  else if code = 0x0C then some .nextSequence
  else if code = 0x0D then some .headSequence
  else none

/-- The schedule-level field of a code (Table 59). -/
def scheduleField (code : Byte) : Option ScheduleField :=
  if code = 0x00 then some .period
  else if code = 0x01 then some .prescaler
  else if code = 0x02 then some .count
  else none

/-- The window field of a code (Table 59). -/
def windowField (code : Byte) : Option WindowField :=
  if code = 0x08 then some .owner
  else if code = 0x09 then some .start
  else if code = 0x0A then some .length
  else if code = 0x0B then some .guard
  else if code = 0x0C then some .budget
  else if code = 0x0D then some .lend
  else none

/-- The field that ACTIVE alone has, of a code (Table 59). -/
def timerField (code : Byte) : Option TimerField :=
  if code = 0x10 then some .commitPending
  else if code = 0x11 then some .frameNumber
  else if code = 0x12 then some .frameTick
  else if code = 0x13 then some .tickCount
  else none

/-- The USAGE field of a code (Table 61). -/
def usageField (code : Byte) : Option UsageField :=
  if code = 0x00 then some .charged
  else if code = 0x01 then some .lent
  else if code = 0x02 then some .spent
  else none

/-- The RULE field of a code (Table 61). -/
def ruleField (code : Byte) : Option RuleField :=
  if code = 0x00 then some .enabled
  else if code = 0x01 then some .firstHigh
  else if code = 0x02 then some .firstLow
  else if code = 0x03 then some .lastHigh
  else if code = 0x04 then some .lastLow
  else if code = 0x05 then some .portMask
  else if code = 0x06 then some .kinds
  else if code = 0x07 then some .action
  else none

/-- The COUNTERS field of a code (Table 61). -/
def counterField (code : Byte) : Option CounterField :=
  if code = 0x00 then some .windowBeats
  else if code = 0x01 then some .bidBeats
  else if code = 0x02 then some .refused
  else if code = 0x03 then some .timeouts
  else none

/-- The EVENT_STATUS field of a code (Table 61). -/
def statusField (code : Byte) : Option StatusField :=
  if code = 0x00 then some .queueLength
  else if code = 0x01 then some .dropCount
  else none

/-- The EVENT_HOLD field of a code (Table 63). -/
def heldField (code : Byte) : Option HeldField :=
  if code = 0x00 then some .holding
  else if code = 0x01 then some .kind
  else if code = 0x02 then some .presence
  else if code = 0x03 then some .frameNumber
  else if code = 0x04 then some .frameTick
  else if code = 0x05 then some .port
  else if code = 0x06 then some .slot
  else if code = 0x07 then some .window
  else if code = 0x08 then some .blockHigh
  else if code = 0x09 then some .blockLow
  else if code = 0x0A then some .sequence
  else if code = 0x0B then some .status
  else if code = 0x0C then some .rule
  else none

/-- The field of an object that a field code names, if it names one. The schedule-level fields, and
those of ACTIVE alone, exist at index 0 only (R160). -/
def fieldIn (o : ObjectRef) (code : Byte) : Option Field :=
  match o with
  | .identity => (indexIn 12 code).map .identity
  | .global => (globalField code).map .global
  | .port p => (portField code).map (.port p)
  | .staged w =>
    match windowField code with
    | some f => some (.stagedWindow w f)
    | none => if w = 0 then (scheduleField code).map .stagedSchedule else none
  | .active w =>
    match windowField code with
    | some f => some (.activeWindow w f)
    | none =>
      if w = 0 then
        match scheduleField code with
        | some f => some (.activeSchedule f)
        | none => (timerField code).map .timer
      else none
  | .usage w => (usageField code).map (.usage w)
  | .rule k => (ruleField code).map (.rule k)
  | .counters p => (counterField code).map (.counter p)
  | .eventStatus => (statusField code).map .status
  | .eventHold => (heldField code).map .held

/-! ### Reading -/

/-- The coding of no and yes (section 11.6). -/
def flagCode (b : Bool) : Nat := b.toNat

/-- The code of a rule's kinds (Table 61). -/
def RuleKinds.code : RuleKinds → Nat
  | .read => 0
  | .write => 1
  | .both => 2

/-- The code of a rule's action (Table 61). -/
def RuleAction.code : RuleAction → Nat
  | .pass => 0
  | .passReport => 1
  | .refuse => 2
  | .refuseReport => 3

/-- The code of the default action (Table 57). -/
def DefaultAction.code : DefaultAction → Nat
  | .pass => 0
  | .refuse => 1

/-- The number of a schedule-level field (Table 59). -/
def Schedule.field (sch : Schedule) : ScheduleField → Nat
  | .period => sch.period.toNat
  | .prescaler => sch.prescaler.toNat
  | .count => sch.count.toNat

/-- The number of a window field (Table 59). -/
def Window.field (w : Window) : WindowField → Nat
  | .owner => w.owner.val
  | .start => w.start.toNat
  | .length => w.length.toNat
  | .guard => w.guard.toNat
  | .budget => w.budget.toNat
  | .lend => flagCode w.lend

/-- The number of a rule field (Table 61). -/
def Rule.field (r : Rule) : RuleField → Nat
  | .enabled => flagCode r.enabled
  | .firstHigh => r.firstBlock.high.toNat
  | .firstLow => r.firstBlock.low.toNat
  | .lastHigh => r.lastBlock.high.toNat
  | .lastLow => r.lastBlock.low.toNat
  | .portMask => r.portMask.toNat
  | .kinds => r.kinds.code
  | .action => r.action.code

/-- The number of a usage field (Table 61). -/
def Usage.field (u : Usage) : UsageField → Nat
  | .charged => u.charged
  | .lent => u.lent
  | .spent => flagCode u.spent

/-- A counter of a port (Table 61). -/
def Counters.field (c : Counters) : CounterField → Nat
  | .windowBeats => c.windowBeats.toNat
  | .bidBeats => c.bidBeats.toNat
  | .refused => c.refused.toNat
  | .timeouts => c.timeouts.toNat

/-- The sequence of the head entry, or the next sequence when the list is empty (R105). -/
def Port.headSequence (r : Port) : Sequence :=
  match r.replies with
  | [] => r.nextSequence
  | e :: _ => e.sequence

/-- The number of a port field (Table 58). -/
def State.portField (s : State) (p : PortId) : PortField → Nat
  | .weight => (s.port p).settings.weight.toNat
  | .startLevel => (s.port p).settings.startLevel.depth
  | .ageLimit => (s.port p).settings.ageLimit.toNat
  | .inFlightLimit => (s.port p).settings.inFlightLimit
  | .postedWrites => flagCode (s.port p).settings.posted
  | .portState => (s.port p).mode.code
  | .queueDepth => (s.port p).queue.length
  | .replyLength => (s.port p).replies.length
  | .inFlightCount => s.inFlightCount p
  | .nextSequence => (s.port p).nextSequence.toNat
  | .headSequence => (s.port p).headSequence.toNat

/-- The number of a GLOBAL field (Table 57). -/
def State.globalField (s : State) : GlobalField → Nat
  | .threshold => s.threshold.toNat
  | .deadline => s.deadline.toNat
  | .defaultAction => s.defaultAction.code
  | .linkState => s.link.code
  | .orphanedCount => s.orphanedCount
  | .enable k => flagCode (look s.enables k)

/-- The number of a field of ACTIVE alone (Table 59). -/
def State.timerField (s : State) : TimerField → Nat
  | .commitPending => flagCode s.commitPending
  | .frameNumber => s.frameNumber.toNat
  | .frameTick => s.frameTick
  | .tickCount => s.tickCount.toNat

/-! ### The held record -/

/-- The port field of an occurrence (Table 40, R146). -/
def Occasion.port? : Occasion → Option PortId
  | .ruleHit p _ _ _ _ _ => some p
  | .malformedRequest p _ _ => some p
  | .budgetSpent p _ => some p
  | .scheduleSwitched => none
  | .timeout p _ _ _ _ => some p
  | .lateCompletion p _ _ _ _ => some p
  | .strayHeader p _ _ => p
  | .strayBeats => none
  | .completionMismatch p _ _ _ => some p
  | .memoryFault p _ _ _ => some p
  | .postedWriteFailed p _ _ _ _ => some p
  | .portHalted p _ => some p
  | .linkDown _ => none
  | .linkUp => none

/-- The slot field of an occurrence (Table 40, R146). -/
def Occasion.slot? : Occasion → Option SlotId
  | .ruleHit _ _ _ _ _ _ => none
  | .malformedRequest _ _ _ => none
  | .budgetSpent _ _ => none
  | .scheduleSwitched => none
  | .timeout _ i _ _ _ => some i
  | .lateCompletion _ i _ _ _ => some i
  | .strayHeader _ i _ => some i
  | .strayBeats => none
  | .completionMismatch _ i _ _ => some i
  | .memoryFault _ i _ _ => some i
  | .postedWriteFailed _ i _ _ _ => i
  | .portHalted _ _ => none
  | .linkDown _ => none
  | .linkUp => none

/-- The window field of an occurrence (Table 40). -/
def Occasion.window? : Occasion → Option WindowId
  | .budgetSpent _ w => some w
  | .ruleHit _ _ _ _ _ _ => none
  | .malformedRequest _ _ _ => none
  | .scheduleSwitched => none
  | .timeout _ _ _ _ _ => none
  | .lateCompletion _ _ _ _ _ => none
  | .strayHeader _ _ _ => none
  | .strayBeats => none
  | .completionMismatch _ _ _ _ => none
  | .memoryFault _ _ _ _ => none
  | .postedWriteFailed _ _ _ _ _ => none
  | .portHalted _ _ => none
  | .linkDown _ => none
  | .linkUp => none

/-- The block and sequence fields of an occurrence: a kind has both or neither (Table 40). -/
def Occasion.request? : Occasion → Option (Block × Sequence)
  | .ruleHit _ b q _ _ _ => some (b, q)
  | .malformedRequest _ b q => some (b, q)
  | .budgetSpent _ _ => none
  | .scheduleSwitched => none
  | .timeout _ _ b q _ => some (b, q)
  | .lateCompletion _ _ b q _ => some (b, q)
  | .strayHeader _ _ _ => none
  | .strayBeats => none
  | .completionMismatch _ _ b q => some (b, q)
  | .memoryFault _ _ b q => some (b, q)
  | .postedWriteFailed _ _ b q _ => some (b, q)
  | .portHalted _ _ => none
  | .linkDown _ => none
  | .linkUp => none

/-- The status or cause code of a RULE_HIT (Table 62). -/
def ruleHitCode (kind : Kind) (refused : Bool) : Nat :=
  match kind, refused with
  | .read, false => 0
  | .write, false => 1
  | .read, true => 2
  | .write, true => 3

/-- The code of a completion status (Table 62). -/
def MemStatus.code : MemStatus → Nat
  | .good => 0
  | .fault => 1

/-- The code of a slot state at expiry (Table 62). -/
def ExpiryState.code : ExpiryState → Nat
  | .issued => 0
  | .receiving => 1

/-- The code of the cause of a lost posted write (Table 62). -/
def LossCause.code : LossCause → Nat
  | .flush => 0
  | .portReset => 1
  | .timeout => 2
  | .fault => 3
  | .linkDown => 4
  | .deviceReset => 5

/-- The code of the cause of a halt (Table 62). -/
def HaltCause.code : HaltCause → Nat
  | .drained => 0
  | .resetRelease => 1

/-- The code of the cause of a link down (Table 62). -/
def DownCause.code : DownCause → Nat
  | .readyFell => 0
  | .restart => 1

/-- The status or cause field of an occurrence, as its code (Tables 40, 41 and 62, R146). -/
def Occasion.status? : Occasion → Option Nat
  | .ruleHit _ _ _ kind refused _ => some (ruleHitCode kind refused)
  | .malformedRequest _ _ _ => none
  | .budgetSpent _ _ => none
  | .scheduleSwitched => none
  | .timeout _ _ _ _ state => some state.code
  | .lateCompletion _ _ _ _ status => some (MemStatus.code status)
  | .strayHeader _ _ status => some (MemStatus.code status)
  | .strayBeats => none
  | .completionMismatch _ _ _ _ => none
  | .memoryFault _ _ _ _ => none
  | .postedWriteFailed _ _ _ _ cause => some cause.code
  | .portHalted _ cause => some cause.code
  | .linkDown cause => some cause.code
  | .linkUp => none

/-- The rule index field of an occurrence (Table 40). -/
def Occasion.rule? : Occasion → Option RuleId
  | .ruleHit _ _ _ _ _ k => some k
  | .malformedRequest _ _ _ => none
  | .budgetSpent _ _ => none
  | .scheduleSwitched => none
  | .timeout _ _ _ _ _ => none
  | .lateCompletion _ _ _ _ _ => none
  | .strayHeader _ _ _ => none
  | .strayBeats => none
  | .completionMismatch _ _ _ _ => none
  | .memoryFault _ _ _ _ => none
  | .postedWriteFailed _ _ _ _ _ => none
  | .portHalted _ _ => none
  | .linkDown _ => none
  | .linkUp => none

/-- The presence field: bits 0 to 6 for port, slot, window, block, sequence, status or cause, and
rule index (Table 63). -/
def Occasion.presence (o : Occasion) : Nat :=
  flagCode o.port?.isSome + 2 * flagCode o.slot?.isSome + 4 * flagCode o.window?.isSome
    + 8 * flagCode o.request?.isSome + 16 * flagCode o.request?.isSome
    + 32 * flagCode o.status?.isSome + 64 * flagCode o.rule?.isSome

/-- The value of an optional field, 0 where the record lacks it (R152). -/
def orZero (v : Option Nat) : Nat := v.getD 0

/-- The number of a field of a held record (Table 63, R152). -/
def EventRecord.field (r : EventRecord) : HeldField → Nat
  | .holding => 1
  | .kind => r.occasion.kindCode.val
  | .presence => r.occasion.presence
  | .frameNumber => r.frameNumber.toNat
  | .frameTick => r.frameTick
  | .port => orZero (r.occasion.port?.map Fin.val)
  | .slot => orZero (r.occasion.slot?.map Fin.val)
  | .window => orZero (r.occasion.window?.map Fin.val)
  | .blockHigh => orZero (r.occasion.request?.map fun x => x.1.high.toNat)
  | .blockLow => orZero (r.occasion.request?.map fun x => x.1.low.toNat)
  | .sequence => orZero (r.occasion.request?.map fun x => x.2.toNat)
  | .status => orZero r.occasion.status?
  | .rule => orZero (r.occasion.rule?.map Fin.val)

/-- The number of an EVENT_HOLD field: every field reads 0 while the holder holds nothing (R152). -/
def State.heldField (s : State) (f : HeldField) : Nat :=
  match s.holder with
  | some r => r.field f
  | none => 0

/-- The number a field holds, in its coding of section 11.6 (R161). -/
def State.fieldNumber (s : State) : Field → Nat
  | .identity k => look Config.identity k
  | .global f => s.globalField f
  | .port p f => s.portField p f
  | .stagedSchedule f => s.staged.field f
  | .stagedWindow w f => (s.staged.window w).field f
  | .activeSchedule f => s.active.field f
  | .activeWindow w f => (s.active.window w).field f
  | .timer f => s.timerField f
  | .usage w f => (look s.usage w).field f
  | .rule k f => (look s.rules k).field f
  | .counter p f => (s.port p).counters.field f
  | .status .queueLength => s.events.length
  | .status .dropCount => s.dropCount
  | .held f => s.heldField f

/-- The value a READ of a field returns (R161). -/
def State.fieldValue (s : State) (f : Field) : Word32 := BitVec.ofNat 32 (s.fieldNumber f)

/-! ### Access and stored ranges -/

/-- The GLOBAL field is writable (Table 57). -/
def GlobalField.writable : GlobalField → Bool
  | .threshold => true
  | .deadline => true
  | .defaultAction => true
  | .linkState => false
  | .orphanedCount => false
  | .enable _ => true

/-- The PORT field is writable (Table 58). -/
def PortField.writable : PortField → Bool
  | .weight => true
  | .startLevel => true
  | .ageLimit => true
  | .inFlightLimit => true
  | .postedWrites => true
  | .portState => false
  | .queueDepth => false
  | .replyLength => false
  | .inFlightCount => false
  | .nextSequence => false
  | .headSequence => false

/-- The field is writable: RW in Tables 56 to 63 (R160). -/
def Field.writable : Field → Bool
  | .identity _ => false
  | .global f => f.writable
  | .port _ f => f.writable
  | .stagedSchedule _ => true
  | .stagedWindow _ _ => true
  | .activeSchedule _ => false
  | .activeWindow _ _ => false
  | .timer _ => false
  | .usage _ _ => false
  | .rule _ _ => true
  | .counter _ _ => false
  | .status _ => false
  | .held _ => false

/-- The field is clearable: the counters and the drop count (R160). -/
def Field.clearable : Field → Bool
  | .counter _ _ => true
  | .status .dropCount => true
  | .status .queueLength => false
  | .identity _ => false
  | .global _ => false
  | .port _ _ => false
  | .stagedSchedule _ => false
  | .stagedWindow _ _ => false
  | .activeSchedule _ => false
  | .activeWindow _ _ => false
  | .timer _ => false
  | .usage _ _ => false
  | .rule _ _ => false
  | .held _ => false

/-- The field belongs to STAGED (R160). -/
def Field.isStaged : Field → Bool
  | .stagedSchedule _ => true
  | .stagedWindow _ _ => true
  | .identity _ => false
  | .global _ => false
  | .port _ _ => false
  | .activeSchedule _ => false
  | .activeWindow _ _ => false
  | .timer _ => false
  | .usage _ _ => false
  | .rule _ _ => false
  | .counter _ _ => false
  | .status _ => false
  | .held _ => false

/-- The grant decision reads the setting: a port setting or the threshold (R43). -/
def Field.isArbiterSetting : Field → Bool
  | .port _ _ => true
  | .global .threshold => true
  | .global .deadline => false
  | .global .defaultAction => false
  | .global .linkState => false
  | .global .orphanedCount => false
  | .global (.enable _) => false
  | .identity _ => false
  | .stagedSchedule _ => false
  | .stagedWindow _ _ => false
  | .activeSchedule _ => false
  | .activeWindow _ _ => false
  | .timer _ => false
  | .usage _ _ => false
  | .rule _ _ => false
  | .counter _ _ => false
  | .status _ => false
  | .held _ => false

/-- The value lies in the stored range of a schedule-level field (Table 59). -/
def ScheduleField.accepts (v : Nat) : ScheduleField → Bool
  | .period => decide (v ≤ 65535)
  | .prescaler => decide (v ≤ 255)
  | .count => decide (v ≤ 255)

/-- The value lies in the stored range of a window field (Table 59). -/
def WindowField.accepts (v : Nat) : WindowField → Bool
  | .owner => decide (v ≤ 3)
  | .start => decide (v ≤ 65535)
  | .length => decide (1 ≤ v) && decide (v ≤ 65535)
  | .guard => decide (v ≤ 255)
  | .budget => decide (v ≤ 4095)
  | .lend => decide (v ≤ 1)

/-- The value lies in the range of a rule field (Table 61). -/
def RuleField.accepts (v : Nat) : RuleField → Bool
  | .enabled => decide (v ≤ 1)
  | .firstHigh => decide (v ≤ 3)
  | .firstLow => true
  | .lastHigh => decide (v ≤ 3)
  | .lastLow => true
  | .portMask => decide (v ≤ 15)
  | .kinds => decide (v ≤ 2)
  | .action => decide (v ≤ 3)

/-- The value lies in the range of a port setting (Table 58). -/
def PortField.accepts (v : Nat) : PortField → Bool
  | .weight => decide (v ≤ 15)
  | .startLevel => (StartLevel.ofNumber v).isSome
  | .ageLimit => decide (v ≤ 65535)
  | .inFlightLimit => decide (1 ≤ v) && decide (v ≤ 16)
  | .postedWrites => decide (v ≤ 1)
  | .portState => false
  | .queueDepth => false
  | .replyLength => false
  | .inFlightCount => false
  | .nextSequence => false
  | .headSequence => false

/-- The value lies in the range of a global setting (Table 57). -/
def GlobalField.accepts (v : Nat) : GlobalField → Bool
  | .threshold => decide (v ≤ 4095)
  | .deadline => decide (v ≤ 65535)
  | .defaultAction => decide (v ≤ 1)
  | .linkState => false
  | .orphanedCount => false
  | .enable _ => decide (v ≤ 1)

/-- The field may store the value, the whole 32-bit value compared (R160). -/
def Field.accepts (v : Nat) : Field → Bool
  | .global f => f.accepts v
  | .port _ f => f.accepts v
  | .stagedSchedule f => f.accepts v
  | .stagedWindow _ f => f.accepts v
  | .rule _ f => f.accepts v
  | .identity _ => false
  | .activeSchedule _ => false
  | .activeWindow _ _ => false
  | .timer _ => false
  | .usage _ _ => false
  | .counter _ _ => false
  | .status _ => false
  | .held _ => false

/-! ### Storing -/

/-- A schedule with one schedule-level field written. -/
def Schedule.withField (v : Nat) (sch : Schedule) : ScheduleField → Schedule
  | .period => { sch with period := BitVec.ofNat 16 v }
  | .prescaler => { sch with prescaler := BitVec.ofNat 8 v }
  | .count => { sch with count := BitVec.ofNat 8 v }

/-- A port number as an owner field codes it. -/
def ownerOf (v : Nat) : PortId := ⟨v % 4, Nat.mod_lt _ (by decide)⟩

/-- A window record with one field written. -/
def Window.withField (v : Nat) (w : Window) : WindowField → Window
  | .owner => { w with owner := ownerOf v }
  | .start => { w with start := BitVec.ofNat 16 v }
  | .length => { w with length := BitVec.ofNat 16 v }
  | .guard => { w with guard := BitVec.ofNat 8 v }
  | .budget => { w with budget := BitVec.ofNat 12 v }
  | .lend => { w with lend := decide (v = 1) }

/-- The kinds that a number codes (Table 61). -/
def RuleKinds.ofCode (v : Nat) : RuleKinds :=
  if v = 0 then .read else if v = 1 then .write else .both

/-- The action that a number codes (Table 61). -/
def RuleAction.ofCode (v : Nat) : RuleAction :=
  if v = 0 then .pass else if v = 1 then .passReport else if v = 2 then .refuse else .refuseReport

/-- A rule record with one field written (R106, R161). -/
def Rule.withField (v : Nat) (r : Rule) : RuleField → Rule
  | .enabled => { r with enabled := decide (v = 1) }
  | .firstHigh => { r with firstBlock := Block.join (BitVec.ofNat 2 v) r.firstBlock.low }
  | .firstLow => { r with firstBlock := Block.join r.firstBlock.high (BitVec.ofNat 32 v) }
  | .lastHigh => { r with lastBlock := Block.join (BitVec.ofNat 2 v) r.lastBlock.low }
  | .lastLow => { r with lastBlock := Block.join r.lastBlock.high (BitVec.ofNat 32 v) }
  | .portMask => { r with portMask := BitVec.ofNat 4 v }
  | .kinds => { r with kinds := RuleKinds.ofCode v }
  | .action => { r with action := RuleAction.ofCode v }

/-- Port settings with one setting written (R61). A read-only field is not stored. -/
def Settings.withField (v : Nat) (x : Settings) : PortField → Settings
  | .weight => { x with weight := BitVec.ofNat 4 v }
  | .startLevel => { x with startLevel := (StartLevel.ofNumber v).getD x.startLevel }
  | .ageLimit => { x with ageLimit := BitVec.ofNat 16 v }
  | .inFlightLimit => { x with inFlightLimit := v }
  | .postedWrites => { x with posted := decide (v = 1) }
  | .portState => x
  | .queueDepth => x
  | .replyLength => x
  | .inFlightCount => x
  | .nextSequence => x
  | .headSequence => x

/-- The state with one global setting written (R61, R106, R116, R147). -/
def State.withGlobalField (v : Nat) (s : State) : GlobalField → State
  | .threshold => { s with threshold := BitVec.ofNat 12 v }
  | .deadline => { s with deadline := BitVec.ofNat 16 v }
  | .defaultAction => { s with defaultAction := if v = 1 then .refuse else .pass }
  | .enable k => { s with enables := put s.enables k (decide (v = 1)) }
  | .linkState => s
  | .orphanedCount => s

/-- The state with one writable field holding the value (R161). -/
def State.withField (v : Nat) (s : State) : Field → State
  | .global f => s.withGlobalField v f
  | .port p f => s.withPort p fun r => { r with settings := r.settings.withField v f }
  | .stagedSchedule f => { s with staged := s.staged.withField v f }
  | .stagedWindow w f =>
    { s with
      staged := { s.staged with
        windows := put s.staged.windows w ((s.staged.window w).withField v f) } }
  | .rule k f => { s with rules := put s.rules k ((look s.rules k).withField v f) }
  | .identity _ => s
  | .activeSchedule _ => s
  | .activeWindow _ _ => s
  | .timer _ => s
  | .usage _ _ => s
  | .counter _ _ => s
  | .status _ => s
  | .held _ => s

/-- Counters with one counter at 0 (R156). -/
def Counters.cleared (c : Counters) : CounterField → Counters
  | .windowBeats => { c with windowBeats := 0 }
  | .bidBeats => { c with bidBeats := 0 }
  | .refused => { c with refused := 0 }
  | .timeouts => { c with timeouts := 0 }

/-- The state with one clearable field at 0 (R162). -/
def State.clearField (s : State) : Field → State
  | .counter p f => s.withPort p fun r => { r with counters := r.counters.cleared f }
  | .status .dropCount => { s with dropCount := 0 }
  | .status .queueLength => s
  | .identity _ => s
  | .global _ => s
  | .port _ _ => s
  | .stagedSchedule _ => s
  | .stagedWindow _ _ => s
  | .activeSchedule _ => s
  | .activeWindow _ _ => s
  | .timer _ => s
  | .usage _ _ => s
  | .rule _ _ => s
  | .held _ => s

end Sys2Proof.Machine
end

