-- ==== Sys2Proof/Machine/Link.lean ====
section
/-! DEFINITION. Link supervision (spec/07): a link down and its effects on slots and entries, LINK_DOWN,
LINK_UP, LINK_READY_FALLS_WHILE_RESTARTING, and the restart that LINK_RESTART asks for. -/

namespace Sys2Proof.Machine

/-- An entry of port `p` is PENDING and the slot it names holds a link to it (R90, R104). -/
def State.linkedEntry (s : State) (p : PortId) (e : ReplyEntry) : Bool :=
  match e.state with
  | .pending i =>
    match (s.slot i).replyLink? with
    | some c => decide (c.port = p) && decide (c.sequence = e.sequence)
    | none => false
  | .waiting => false
  | .ready _ _ => false
  | .delivering _ _ _ => false

/-- An entry of port `p` after a link down (R104). -/
def State.linkResetEntry (s : State) (p : PortId) (e : ReplyEntry) : ReplyEntry :=
  if s.linkedEntry p e then { e with state := .ready .linkReset [] } else e

/-- Port `p` after a link down (R97, R104). -/
def State.linkResetPort (s : State) (p : PortId) : Port :=
  { s.port p with replies := beginDelivery ((s.port p).replies.map (s.linkResetEntry p)) }

/-- A link down that leaves the link in state `link`: every slot is freed, the entries they link to
are settled LINK_RESET, and the records are offered, LINK_DOWN first (R85, R122, R125). -/
def State.takeLinkDown (s : State) (cause : DownCause) (link : LinkState) : State :=
  ({ s with
      slots := tabulate fun _ => Slot.free
      ports := tabulate fun p => s.linkResetPort p
      completion := .awaitHeader
      link := link }.record (.linkDown cause)).recordAll (s.slotLosses .linkDown)

/-- The link ready input falls (R121, R122). -/
def State.linkReadyFalls (s : State) : State :=
  let low := { s with linkReady := false }
  if s.deviceReset then low else
    match s.link with
    | .up => low.takeLinkDown .readyFell .down
    | .down => low
    | .restarting => low

/-- LINK_DOWN (R122): link ready falls. -/
def execLinkDown (s : State) : Host.Outcome State Fault Refusal := .next s.linkReadyFalls

/-- LINK_READY_FALLS_WHILE_RESTARTING (R122): link ready falls, and a restart goes on. -/
def execLinkReadyFallsWhileRestarting (s : State) : Host.Outcome State Fault Refusal :=
  .next s.linkReadyFalls

/-- The link comes up, with its LINK_UP record and the first grant decision (R124). -/
def State.takeLinkUp (s : State) : State :=
  ({ s with linkReady := true, link := .up }.record .linkUp).takeDecision

/-- The link ready input rises. While device reset is asserted, or while it is already high, there
is nothing to act on (R121, R124, R125, log 3). -/
def State.linkReadyRises (s : State) : State :=
  if s.linkReady then s
  else if s.deviceReset then { s with linkReady := true }
  else match s.link with
    | .up => { s with linkReady := true }
    | .down => s.takeLinkUp
    | .restarting => s.takeLinkUp

/-- LINK_UP (R124): link ready rises. -/
def execLinkUp (s : State) : Host.Outcome State Fault Refusal := .next s.linkReadyRises

/-- What a LINK_RESTART does, by the link state (R125). -/
def State.restartLink (s : State) : State :=
  match s.link with
  | .up => s.takeLinkDown .restart .restarting
  | .down => { s with link := .restarting }
  | .restarting => s

end Sys2Proof.Machine
end

