-- ==== Sys2Proof/Machine/PortControl.lean ====
section
/-! DEFINITION. Port control (spec/08): what PORT_ENABLE, PORT_DRAIN and PORT_FLUSH do to a port, and
PORT_RESET_ASSERT and PORT_RESET_RELEASE. -/

namespace Sys2Proof.Machine

/-- Port `p` enters a state. -/
def State.withMode (s : State) (p : PortId) (mode : PortMode) : State :=
  s.withPort p fun r => { r with mode := mode }

/-- PORT_ENABLE on port `p`: the state after it, or none where it is refused (R132). -/
def State.enablePort (s : State) (p : PortId) : Option State :=
  match (s.port p).mode with
  | .active => some s
  | .draining => some (s.withMode p .active)
  | .halted => some (s.withMode p .active)
  | .inReset _ _ => none

/-- PORT_DRAIN on port `p`: the state after it, or none where it is refused (R133). -/
def State.drainPort (s : State) (p : PortId) : Option State :=
  match (s.port p).mode with
  | .active => some ((s.withMode p .draining).drainCheck p)
  | .draining => some s
  | .halted => some s
  | .inReset _ _ => none

/-- An entry that a flush settles: WAITING, with a queued request that links to it (R104, R134). -/
def Port.flushes (r : Port) (e : ReplyEntry) : Bool :=
  decide (e.state = .waiting)
    && r.queue.any fun q => !q.posted && decide (q.sequence = e.sequence)

/-- A port with its queue flushed, DRAINING (R134). -/
def Port.flushed (r : Port) : Port :=
  { r with
    mode := .draining
    queue := []
    replies := beginDelivery (r.replies.map fun e =>
      if r.flushes e then { e with state := .ready .aborted [] } else e) }

/-- The flush of port `p`'s queue, with its records and the drain check (R134). -/
def State.flushQueue (s : State) (p : PortId) : State :=
  ((s.withPort p Port.flushed).recordAll (s.queueLosses p .flush)).drainCheck p

/-- PORT_FLUSH on port `p`: the state after it, or none where it is refused (R134). -/
def State.flushPort (s : State) (p : PortId) : Option State :=
  match (s.port p).mode with
  | .active => some (s.flushQueue p)
  | .draining => some (s.flushQueue p)
  | .halted => some s
  | .inReset _ _ => none

/-! ### Port reset -/

/-- The level of the reset input of port `p` changes. -/
def State.withResetInput (s : State) (p : PortId) (level : Bool) : State :=
  s.withPort p fun r => { r with resetInput := level }

/-- A slot at the assertion of port `p`'s reset (R138). -/
def Slot.portReset (p : PortId) : Slot → Slot
  | .free => .free
  | .sending c share taken mark => .sending c share taken (mark || decide (c.port = p))
  | .issued c d => if c.port = p then .orphaned c else .issued c d
  | .receiving c d beats => if c.port = p then .orphaned c else .receiving c d beats
  | .orphaned c => .orphaned c

/-- The completion channel at the assertion of port `p`'s reset: a DATA for one of its slots becomes
DISCARD (R79). -/
def State.channelAtPortReset (s : State) (p : PortId) : CompletionChannel :=
  match s.completion with
  | .data i =>
    match s.slot i with
    | .receiving c _ _ => if c.port = p then .discard (some i) else .data i
    | .free => .data i
    | .sending _ _ _ _ => .data i
    | .issued _ _ => .data i
    | .orphaned _ => .data i
  | .awaitHeader => .awaitHeader
  | .discard slot => .discard slot

/-- A port emptied by the assertion of its reset (R36, R102, R137). -/
def Port.reset (returnTo : ReturnState) (drainReport : Bool) (r : Port) : Port :=
  { r with mode := .inReset returnTo drainReport, resetInput := true, queue := [], replies := [] }

/-- The assertion of port `p`'s reset, as one whole (R137), and the grant decision on the read store
beats it releases (R43, R84). -/
def State.resetPort (s : State) (p : PortId) (returnTo : ReturnState) (drainReport : Bool) :
    State :=
  ({ (s.withPort p (Port.reset returnTo drainReport)) with
      slots := tabulate fun i => (s.slot i).portReset p
      completion := s.channelAtPortReset p }.recordAll (s.queueLosses p .portReset)).takeDecision

/-- PORT_RESET_ASSERT (R137). While device reset is asserted only the level of the input changes
(R141), and so at a second assertion (Table 37). -/
def execPortResetAssert (p : PortId) (s : State) : Host.Outcome State Fault Refusal :=
  if s.deviceReset then .next (s.withResetInput p true) else
    match (s.port p).mode with
    | .active => .next (s.resetPort p .active false)
    | .draining => .next (s.resetPort p .halted true)
    | .halted => .next (s.resetPort p .halted false)
    | .inReset _ _ => .next (s.withResetInput p true)

/-- The port state that a return state names (R131). -/
def ReturnState.mode : ReturnState → PortMode
  | .active => .active
  | .halted => .halted

/-- The release of port `p`'s reset into its return state (R140). -/
def State.releasePort (s : State) (p : PortId) (returnTo : ReturnState) (drainReport : Bool) :
    State :=
  let released := s.withPort p fun r =>
    { r with mode := returnTo.mode, resetInput := false, nextSequence := 0 }
  if drainReport then released.record (.portHalted p .resetRelease) else released

/-- PORT_RESET_RELEASE (R140). While device reset is asserted only the level of the input changes
(R141), and so at a release of a port that is not IN_RESET (Table 37). -/
def execPortResetRelease (p : PortId) (s : State) : Host.Outcome State Fault Refusal :=
  if s.deviceReset then .next (s.withResetInput p false) else
    match (s.port p).mode with
    | .inReset returnTo drainReport => .next (s.releasePort p returnTo drainReport)
    | .active => .next (s.withResetInput p false)
    | .draining => .next (s.withResetInput p false)
    | .halted => .next (s.withResetInput p false)

end Sys2Proof.Machine
end

