-- ==== Sys2Proof/Machine/Reset.lean ====
section
/-! DEFINITION. Device reset and the reset that SOFT_RESET makes (R4, R36, R87, R89, R113, R126, R141,
R154, R158, R167). -/

namespace Sys2Proof.Machine

/-- Every block at its reset state, with the management frame left as given, and the posted writes
lost then recorded. Input levels and waiting commands are not the part's to reset (R141, R154). -/
def State.resetBlocks (s : State) (frame : MgmtFrame) : State :=
  { State.reset with
    pending := s.pending
    draws := s.draws
    linkReady := s.linkReady
    ports := tabulate fun p => Port.afterReset (s.port p).resetInput
    frame := frame }.recordAll s.resetLosses

/-- DEVICE_RESET_ASSERT (R154): the event unit is cleared, link restart is driven, the management
frame is abandoned, and the rest stands still until the release (R4, R87, R121, R158). -/
def execDeviceResetAssert (s : State) : Host.Outcome State Fault Refusal :=
  if s.deviceReset then .next s
  else .next
    { s with
      deviceReset := true
      link := .restarting
      events := []
      dropCount := 0
      holder := none
      enables := tabulate fun _ => true
      frame := .unselected }

/-- DEVICE_RESET_RELEASE (R87): every block takes its reset state. -/
def execDeviceResetRelease (s : State) : Host.Outcome State Fault Refusal :=
  if s.deviceReset then .next (s.resetBlocks .unselected) else .next s

end Sys2Proof.Machine
end

