-- ==== Sys2Proof/Machine/Management.lean ====
section
/-! DEFINITION. The management port (spec/10): the management commands with their results, and the
frame that carries them bit by bit. -/

namespace Sys2Proof.Machine

/-! ### READ, WRITE and READ_AND_CLEAR -/

/-- A command on one field, by the first two checks of R160, then by the field. -/
def onField (object index field : Byte) (s : State) (act : Field → State × Result) :
    State × Result :=
  match objectOf object index with
  | none => (s, ⟨.badObject, 0⟩)
  | some o =>
    match fieldIn o field with
    | none => (s, ⟨.badField, 0⟩)
    | some f => act f

/-- READ (R160, R161). -/
def State.mgmtRead (s : State) (object index field : Byte) : State × Result :=
  onField object index field s fun f => (s, ⟨.done, s.fieldValue f⟩)

/-- The state with a field written, and the grant decision taken again where it reads the field
(R61, R161). -/
def State.storeField (s : State) (f : Field) (value : Word32) : State :=
  if f.isArbiterSetting then (s.withField value.toNat f).takeDecision
  else s.withField value.toNat f

/-- A WRITE of a field, by checks 3 to 5 of R160. -/
def State.writeTo (s : State) (value : Word32) (f : Field) : State × Result :=
  if f.writable then
    if f.isStaged && s.commitPending then (s, ⟨.stagedLocked, s.fieldValue f⟩)
    else if f.accepts value.toNat then
      (s.storeField f value, ⟨.done, (s.withField value.toNat f).fieldValue f⟩)
    else (s, ⟨.badValue, s.fieldValue f⟩)
  else (s, ⟨.readOnly, s.fieldValue f⟩)

/-- WRITE (R160, R161). -/
def State.mgmtWrite (s : State) (object index field : Byte) (value : Word32) : State × Result :=
  onField object index field s (s.writeTo value)

/-- READ_AND_CLEAR (R160, R162). -/
def State.mgmtReadAndClear (s : State) (object index field : Byte) : State × Result :=
  onField object index field s fun f =>
    if f.clearable then (s.clearField f, ⟨.done, s.fieldValue f⟩)
    else (s, ⟨.readOnly, s.fieldValue f⟩)

/-! ### Commands that act on the part -/

/-- COMMIT (R7, R10, R163). -/
def State.mgmtCommit (s : State) : State × Result :=
  if s.commitPending then (s, ⟨.stagedLocked, 0⟩)
  else match s.staged.fault with
    | some r => (s, r)
    | none => ({ s with commitPending := true }, ⟨.done, 0⟩)

/-- CANCEL (R11, R163). -/
def State.mgmtCancel (s : State) : State × Result :=
  ({ s with commitPending := false }, ⟨.done, 0⟩)

/-- The code of the state of port `p`, as a result value (R164). -/
def State.portCode (s : State) (p : PortId) : Word32 := BitVec.ofNat 32 (s.port p).mode.code

/-- A port command: the index byte names the port, a port in reset refuses it, and the result value
is the port's state code after it (R164). -/
def State.mgmtPort (s : State) (index : Byte) (act : PortId → Option State) : State × Result :=
  match indexIn 4 index with
  | none => (s, ⟨.badObject, 0⟩)
  | some p =>
    match act p with
    | some t => (t, ⟨.done, t.portCode p⟩)
    | none => (s, ⟨.notAllowed, s.portCode p⟩)

/-- CLEAR_COUNTERS (R156, R164). -/
def State.mgmtClearCounters (s : State) (index : Byte) : State × Result :=
  match indexIn 4 index with
  | none => (s, ⟨.badObject, 0⟩)
  | some p => (s.withPort p fun r => { r with counters := Counters.zero }, ⟨.done, 0⟩)

/-- POP_EVENT (R151, R165). -/
def State.mgmtPopEvent (s : State) : State × Result :=
  match s.events with
  | [] => (s, ⟨.empty, 0⟩)
  | r :: rs => ({ s with events := rs, holder := some r }, ⟨.done, BitVec.ofNat 32 rs.length⟩)

/-- LINK_RESTART (R125, R165). -/
def State.mgmtLinkRestart (s : State) : State × Result :=
  (s.restartLink, ⟨.done, BitVec.ofNat 32 s.restartLink.link.code⟩)

/-- SOFT_RESET (R167). -/
def State.mgmtSoftReset (s : State) : State × Result := (s.resetBlocks s.frame, ⟨.done, 0⟩)

/-- The effect of a management command at its taking, and its result (Table 45). -/
def State.perform (s : State) : MgmtCommand → State × Result
  | .noOperation => (s, ⟨.done, 0⟩)
  | .read o i f => s.mgmtRead o i f
  | .write o i f v => s.mgmtWrite o i f v
  | .readAndClear o i f => s.mgmtReadAndClear o i f
  | .commit => s.mgmtCommit
  | .cancel => s.mgmtCancel
  | .portEnable i => s.mgmtPort i s.enablePort
  | .portDrain i => s.mgmtPort i s.drainPort
  | .portFlush i => s.mgmtPort i s.flushPort
  | .clearCounters i => s.mgmtClearCounters i
  | .popEvent => s.mgmtPopEvent
  | .linkRestart => s.mgmtLinkRestart
  | .softReset => s.mgmtSoftReset
  | .unknown _ => (s, ⟨.notAllowed, 0⟩)

/-! ### The taking of a command -/

/-- The frame in ANSWER right after the 64th bit, with the result of the command (R157, R159). -/
def answered (x : State × Result) : State := { x.1 with frame := .answer Config.commandBits x.2 }

/-- The taking of a management command: the 64th bit of its frame. A command of the table stands for
its frame up to that bit (log 6). While device reset is asserted no frame is received (R158). -/
def State.take (s : State) (c : MgmtCommand) : State :=
  if s.deviceReset then s else answered (s.perform c)

/-- NO_OPERATION (R165). -/
def execNoOperation (s : State) : Host.Outcome State Fault Refusal := .next (s.take .noOperation)

/-- READ (R161). -/
def execRead (object index field : Byte) (s : State) : Host.Outcome State Fault Refusal :=
  .next (s.take (.read object index field))

/-- WRITE (R161). -/
def execWrite (object index field : Byte) (value : Word32) (s : State) :
    Host.Outcome State Fault Refusal :=
  .next (s.take (.write object index field value))

/-- READ_AND_CLEAR (R162). -/
def execReadAndClear (object index field : Byte) (s : State) : Host.Outcome State Fault Refusal :=
  .next (s.take (.readAndClear object index field))

/-- COMMIT (R10). -/
def execCommit (s : State) : Host.Outcome State Fault Refusal := .next (s.take .commit)

/-- CANCEL (R11). -/
def execCancel (s : State) : Host.Outcome State Fault Refusal := .next (s.take .cancel)

/-- PORT_ENABLE (R132). -/
def execPortEnable (index : Byte) (s : State) : Host.Outcome State Fault Refusal :=
  .next (s.take (.portEnable index))

/-- PORT_DRAIN (R133). -/
def execPortDrain (index : Byte) (s : State) : Host.Outcome State Fault Refusal :=
  .next (s.take (.portDrain index))

/-- PORT_FLUSH (R134). -/
def execPortFlush (index : Byte) (s : State) : Host.Outcome State Fault Refusal :=
  .next (s.take (.portFlush index))

/-- CLEAR_COUNTERS (R156). -/
def execClearCounters (index : Byte) (s : State) : Host.Outcome State Fault Refusal :=
  .next (s.take (.clearCounters index))

/-- POP_EVENT (R151). -/
def execPopEvent (s : State) : Host.Outcome State Fault Refusal := .next (s.take .popEvent)

/-- LINK_RESTART (R125). -/
def execLinkRestart (s : State) : Host.Outcome State Fault Refusal := .next (s.take .linkRestart)

/-- SOFT_RESET (R167). -/
def execSoftReset (s : State) : Host.Outcome State Fault Refusal := .next (s.take .softReset)

/-- UNKNOWN_COMMAND (R165). -/
def execUnknownCommand (code : Byte) (s : State) : Host.Outcome State Fault Refusal :=
  .next (s.take (.unknown code))

/-! ### The frame, bit by bit -/

/-- CHIP_SELECT_FALL (R157): a new frame begins, whatever the frame state. Chip select is not sampled
while device reset is asserted (R158). -/
def execChipSelectFall (s : State) : Host.Outcome State Fault Refusal :=
  if s.deviceReset then .next s else .next { s with frame := .command [] }

/-- CHIP_SELECT_RISE (R158): the frame ends, with a command not yet taken discarded. -/
def execChipSelectRise (s : State) : Host.Outcome State Fault Refusal :=
  if s.deviceReset then .next s else .next { s with frame := .unselected }

/-- A bit sampled in COMMAND: the 64th takes the command that the frame's bytes spell (R157). -/
def State.sampleBit (s : State) (bits : List Bool) : State :=
  if bits.length < Config.commandBits then { s with frame := .command bits }
  else s.take (decodeFrame (wordOfBits bits))

/-- SPI_CLOCK_RISING_EDGE (R157), by the frame state. The SPI clock is not sampled while device
reset is asserted (R158). -/
def execSpiClockRisingEdge (dataIn : Bool) (s : State) : Host.Outcome State Fault Refusal :=
  if s.deviceReset then .next s else
    match s.frame with
    | .unselected => .next s
    | .command bits => .next (s.sampleBit (bits ++ [dataIn]))
    | .answer bitCount result =>
      if bitCount + 1 < Config.frameBits then
        .next { s with frame := .answer (bitCount + 1) result }
      else .next { s with frame := .overrun }
    | .overrun => .next s

end Sys2Proof.Machine
end

