-- ==== Sys2Proof/Machine/MemoryPort.lean ====
section
/-! DEFINITION. The memory port (spec/04): COMMAND_ITEM_TAKEN, TRANSFER_END, COMPLETION_HEADER and
READ_BEAT. -/

namespace Sys2Proof.Machine

/-! ### The command channel -/

/-- COMMAND_ITEM_TAKEN (R68): the controller takes an item of the command that is not its last. When
no such item is offered nothing is taken (R87, log 3). -/
def execCommandItemTaken (s : State) : Host.Outcome State Fault Refusal :=
  if s.deviceReset then .next s else
    match s.sendingSlot with
    | none => .next s
    | some i =>
      match s.slot i with
      | .sending c share taken mark =>
        if taken + 1 < commandItems share then
          .next (s.withSlot i (.sending c share (taken + 1) mark))
        else .next s
      | .free => .next s
      | .issued _ _ => .next s
      | .receiving _ _ _ => .next s
      | .orphaned _ => .next s

/-- The deadline count loaded from the global deadline setting (R69, R116). -/
def State.loadedDeadline (s : State) : Deadline :=
  if s.deadline = 0 then .absent else .ticks s.deadline.toNat

/-- The slot a transfer leaves, by the orphan mark (R69). -/
def State.transferred (s : State) (c : Command) (mark : Bool) : Slot :=
  if mark then .orphaned c else .issued c s.loadedDeadline

/-- TRANSFER_END (R69): the controller takes the last item of the command. When the item offered is
not the last, or none is, nothing is taken (R87, log 3). -/
def execTransferEnd (s : State) : Host.Outcome State Fault Refusal :=
  if s.deviceReset then .next s else
    match s.sendingSlot with
    | none => .next s
    | some i =>
      match s.slot i with
      | .sending c share taken mark =>
        if taken + 1 = commandItems share then
          .next (s.withSlot i (s.transferred c mark)).takeDecision
        else .next s
      | .free => .next s
      | .issued _ _ => .next s
      | .receiving _ _ _ => .next s
      | .orphaned _ => .next s

/-! ### The ends of completions -/

/-- The completion channel takes a state (R71). -/
def State.withChannel (s : State) (channel : CompletionChannel) : State :=
  { s with completion := channel }

/-- A good read ends: slot `i` becomes FREE and its data passes to its entry (R76). -/
def State.goodRead (s : State) (i : SlotId) (c : Command) (data : List BeatData) : State :=
  ((s.withSlot i .free).withChannel .awaitHeader).settleSlot i c .ok data

/-- A read completion of slot `i` ends as a mismatch (R76). -/
def State.mismatch (s : State) (i : SlotId) (c : Command) : State :=
  (((s.withSlot i .free).withChannel .awaitHeader).settleSlot i c .dataError []).record
    (.completionMismatch c.port i c.block c.sequence)

/-- A late completion of slot `i` ends (R77). -/
def State.lateEnd (s : State) (i : SlotId) (c : Command) (status : MemStatus) : State :=
  ((s.withSlot i .free).withChannel .awaitHeader).record
    (.lateCompletion c.port i c.block c.sequence status)

/-- The end of the completion for slot `i` at a last marker in DISCARD, or at a header in DATA or
DISCARD: a mismatch for a slot in RECEIVING, a late completion for an orphan (R76, R77). -/
def State.endCompletion (s : State) (i : SlotId) : State :=
  match s.slot i with
  | .receiving c _ _ => s.mismatch i c
  | .orphaned c => s.lateEnd i c .good
  | .free => s.withChannel .awaitHeader
  | .sending _ _ _ _ => s.withChannel .awaitHeader
  | .issued _ _ => s.withChannel .awaitHeader

/-! ### Completion headers -/

/-- Data beats follow a header of this kind and status (Table 23). -/
def hasBeats (kind : Kind) (status : MemStatus) : Bool :=
  decide (kind = .read) && decide (status = .good)

/-- A stray completion header, which touches no slot (R78). -/
def State.strayHeader (s : State) (i : SlotId) (kind : Kind) (status : MemStatus) : State :=
  (s.withChannel (if hasBeats kind status then .discard none else .awaitHeader)).record
    (.strayHeader ((s.slot i).command?.map Command.port) i status)

/-- A late completion header for slot `i`: it begins the discarding of a good read's beats, or ends
the completion at once (R77). -/
def State.lateHeader (s : State) (i : SlotId) (c : Command) (kind : Kind) (status : MemStatus) :
    State :=
  if hasBeats kind status then s.withChannel (.discard (some i)) else s.lateEnd i c status

/-- The records of a completion with status FAULT, in the order of R73. -/
def faultOccasions (i : SlotId) (c : Command) : List Occasion :=
  if c.posted then
    [.memoryFault c.port i c.block c.sequence,
     .postedWriteFailed c.port (some i) c.block c.sequence .fault]
  else [.memoryFault c.port i c.block c.sequence]

/-- A completion of slot `i` with status FAULT, of a read or of a write (R73, R74). -/
def State.faultCompletion (s : State) (i : SlotId) (c : Command) : State :=
  ((s.withSlot i .free).settleSlot i c .dataError []).recordAll (faultOccasions i c)

/-- A matching header for slot `i` in ISSUED (R73, R74, R75). -/
def State.issuedHeader (s : State) (i : SlotId) (c : Command) (d : Deadline)
    (status : MemStatus) : State :=
  match status with
  | .fault => s.faultCompletion i c
  | .good =>
    match c.kind with
    | .write => (s.withSlot i .free).settleSlot i c .ok []
    | .read => (s.withSlot i (.receiving c d [])).withChannel (.data i)

/-- A header taken in AWAIT_HEADER, by the order of Table 24 (R72). No slot is in RECEIVING there;
a header that named one would be stray (log 8). -/
def State.classifyHeader (s : State) (i : SlotId) (kind : Kind) (status : MemStatus) : State :=
  match s.slot i with
  | .free => s.strayHeader i kind status
  | .sending _ _ _ _ => s.strayHeader i kind status
  | .receiving _ _ _ => s.strayHeader i kind status
  | .orphaned c =>
    if c.kind = kind then s.lateHeader i c kind status else s.strayHeader i kind status
  | .issued c d =>
    if c.kind = kind then s.issuedHeader i c d status else s.strayHeader i kind status

/-- The end that a header makes of a completion still in progress (R76, R77, R78). -/
def State.interrupt (s : State) : State :=
  match s.completion with
  | .awaitHeader => s
  | .data j => s.endCompletion j
  | .discard (some j) => s.endCompletion j
  | .discard none => s.withChannel .awaitHeader

/-- COMPLETION_HEADER (R72): the header ends a completion in progress and is classified. While the
link is down, or device reset is asserted, it is taken and discarded (R71, R87). -/
def execCompletionHeader (i : SlotId) (kind : Kind) (status : MemStatus) (s : State) :
    Host.Outcome State Fault Refusal :=
  if s.deviceReset || !s.linkIsUp then .next s
  else .next ((s.interrupt.classifyHeader i kind status).decideAfter s)

/-! ### Read beats -/

/-- A read beat taken in AWAIT_HEADER begins a stray run (R78). -/
def State.strayBeat (s : State) (last : Bool) : State :=
  (s.withChannel (if last then .awaitHeader else .discard none)).record .strayBeats

/-- A read beat taken in DATA for slot `i`, which holds `c` and has received `beats` (R75, R76). -/
def State.dataBeat (s : State) (i : SlotId) (c : Command) (d : Deadline) (beats : List BeatData)
    (data : BeatData) (last : Bool) : State :=
  if beats.length < c.length then
    if last then
      if beats.length + 1 = c.length then (s.goodRead i c (beats ++ [data])).takeDecision
      else (s.mismatch i c).takeDecision
    else s.withSlot i (.receiving c d (beats ++ [data]))
  else if last then (s.mismatch i c).takeDecision
  else s.withChannel (.discard (some i))

/-- READ_BEAT (R75): the beat is placed in the reservation, discarded, or ends the completion. While
the link is down, or device reset is asserted, it is taken and discarded (R71, R87). -/
def execReadBeat (data : BeatData) (last : Bool) (s : State) : Host.Outcome State Fault Refusal :=
  if s.deviceReset || !s.linkIsUp then .next s else
    match s.completion with
    | .awaitHeader => .next (s.strayBeat last)
    | .data i =>
      match s.slot i with
      | .receiving c d beats => .next (s.dataBeat i c d beats data last)
      | .free => .next s
      | .sending _ _ _ _ => .next s
      | .issued _ _ => .next s
      | .orphaned _ => .next s
    | .discard (some i) => if last then .next (s.endCompletion i).takeDecision else .next s
    | .discard none => if last then .next (s.withChannel .awaitHeader) else .next s

end Sys2Proof.Machine
end

