-- ==== Sys2Proof/Machine/Deadlines.lean ====
section
/-! DEFINITION. The deadline supervision (spec/07): the countdown of a tick end, the expiries it brings,
their order, and DEADLINE_EXPIRY. -/

namespace Sys2Proof.Machine

/-! ### The countdown -/

/-- A deadline count after a tick end: one less, or absent when it ends (R117). -/
def Deadline.countDown : Deadline → Deadline
  | .absent => .absent
  | .ticks left => if 2 ≤ left then .ticks (left - 1) else .absent

/-- The count ends at the next tick end (R117). -/
def Deadline.ends : Deadline → Bool
  | .absent => false
  | .ticks left => decide (left = 1)

/-- A slot after the countdown of a tick end (R117). -/
def Slot.countDown : Slot → Slot
  | .free => .free
  | .sending c share taken mark => .sending c share taken mark
  | .issued c d => .issued c d.countDown
  | .receiving c d beats => .receiving c d.countDown beats
  | .orphaned c => .orphaned c

/-- The slot expires at the next tick end (R117). -/
def Slot.expires : Slot → Bool
  | .free => false
  | .sending _ _ _ _ => false
  | .issued _ d => d.ends
  | .receiving _ d _ => d.ends
  | .orphaned _ => false

/-! ### Expiry -/

/-- The port with its timeout counter increased (R130). -/
def Port.countTimeout (port : Port) : Port :=
  { port with counters := { port.counters with timeouts := port.counters.timeouts + 1 } }

/-- The records of an expiry, in the order of R118. -/
def expiryOccasions (i : SlotId) (c : Command) (state : ExpiryState) : List Occasion :=
  if c.posted then
    [.timeout c.port i c.block c.sequence state,
     .postedWriteFailed c.port (some i) c.block c.sequence .timeout]
  else [.timeout c.port i c.block c.sequence state]

/-- The expiry of slot `i`, which holds `c` in this state, as one whole (R118, R119). -/
def State.expire (s : State) (i : SlotId) (c : Command) (state : ExpiryState) : State :=
  ((((s.orphan i).settleSlot i c .timeout []).withPort c.port Port.countTimeout).recordAll
    (expiryOccasions i c state)).takeDecision

/-- The expiry of slot `i`, if it is in ISSUED or RECEIVING (R118, R120). -/
def State.expireSlot (s : State) (i : SlotId) : State :=
  match s.slot i with
  | .issued c _ => s.expire i c .issued
  | .receiving c _ _ => s.expire i c .receiving
  | .free => s
  | .sending _ _ _ _ => s
  | .orphaned _ => s

/-! ### The expiries of one tick end -/

/-- A slot put into a list of slots in rising rank. -/
def insertByRank (rank : SlotId → Nat) (i : SlotId) : List SlotId → List SlotId
  | [] => [i]
  | j :: js => if rank i ≤ rank j then i :: j :: js else j :: insertByRank rank i js

/-- The slots of a list in rising rank. -/
def sortByRank (rank : SlotId → Nat) (slots : List SlotId) : List SlotId :=
  slots.foldr (insertByRank rank) []

/-- The slots that expire at the next tick end, in the order in which their expiries are taken, which
the spec leaves open (R117, R119, log 12). -/
def State.expiryOrder (s : State) : List SlotId :=
  sortByRank (Config.expiryRank s.draws) ((List.finRange 32).filter fun i => (s.slot i).expires)

/-- The expiries of several slots, one after another (R119). -/
def State.expireAll (s : State) (order : List SlotId) : State := order.foldl State.expireSlot s

/-- The memory clocks before the last one of the tick pass (R1). -/
def State.reachTickEnd (s : State) : State := { s with clocks := s.active.prescaler.toNat - 1 }

/-- DEADLINE_EXPIRY (R118): the expiry of a slot whose count ends at the tick end now reached, taken
before the other events of that tick end. A slot whose count does not end there does not expire, and
the part stands still while device reset is asserted (log 12, log 3). -/
def execDeadlineExpiry (i : SlotId) (s : State) : Host.Outcome State Fault Refusal :=
  if s.deviceReset then .next s
  else if (s.slot i).expires then .next (s.reachTickEnd.expireSlot i)
  else .next s

end Sys2Proof.Machine
end

