-- ==== Sys2Proof/Machine/Timer.lean ====
section
/-! DEFINITION. The frame timer (spec/01): TICK_END, and the memory clock that passes while no
command waits. -/

namespace Sys2Proof.Machine

/-- A tick end at the frame timer: the tick count, the countdown of the deadlines and the frame tick,
and the grant decision on the state they leave (R1, R2, R3, R43, R117). -/
def State.advanceTick (s : State) : State :=
  ({ s with
      draws := s.draws + 1
      clocks := 0
      tickCount := s.tickCount + 1
      slots := tabulate fun i => (s.slot i).countDown }).advanceFrame.takeDecision

/-- A tick end, with the expiries of the slots whose count was 1 (R117, R119). No tick ends while
device reset is asserted (R4). -/
def State.tickEnd (s : State) : State :=
  if s.deviceReset then s else s.advanceTick.expireAll s.expiryOrder

/-- One memory clock: the last one of a tick, by the prescaler of the active schedule, ends it (R1,
log 1). -/
def State.memoryClock (s : State) : State :=
  if s.deviceReset then s
  else if s.clocks + 1 < s.active.prescaler.toNat then { s with clocks := s.clocks + 1 }
  else s.tickEnd

/-- TICK_END (R1): the memory clocks left in the tick pass, and the tick ends. -/
def execTickEnd (s : State) : Host.Outcome State Fault Refusal := .next s.tickEnd

end Sys2Proof.Machine
end

