-- ==== Sys2Proof/Machine/Dispatch.lean ====
section
/-! DEFINITION. The effect of each command on everything but the queue of waiting commands. -/

namespace Sys2Proof.Machine

def exec (i : Instr) (s : State) : Host.Outcome State Fault Refusal :=
  match i with
  | .tickEnd => Sys2Proof.Machine.execTickEnd s
  | .arrival p r => Sys2Proof.Machine.execArrival p r s
  | .grant => Sys2Proof.Machine.execGrant s
  | .commandItemTaken => Sys2Proof.Machine.execCommandItemTaken s
  | .transferEnd => Sys2Proof.Machine.execTransferEnd s
  | .completionHeader slot kind status => Sys2Proof.Machine.execCompletionHeader slot kind status s
  | .readBeat data last => Sys2Proof.Machine.execReadBeat data last s
  | .deadlineExpiry slot => Sys2Proof.Machine.execDeadlineExpiry slot s
  | .linkDown => Sys2Proof.Machine.execLinkDown s
  | .linkUp => Sys2Proof.Machine.execLinkUp s
  | .replyItemTaken p => Sys2Proof.Machine.execReplyItemTaken p s
  | .deliveryEnd p => Sys2Proof.Machine.execDeliveryEnd p s
  | .portResetAssert p => Sys2Proof.Machine.execPortResetAssert p s
  | .portResetRelease p => Sys2Proof.Machine.execPortResetRelease p s
  | .deviceResetAssert => Sys2Proof.Machine.execDeviceResetAssert s
  | .deviceResetRelease => Sys2Proof.Machine.execDeviceResetRelease s
  | .noOperation => Sys2Proof.Machine.execNoOperation s
  | .read object index field => Sys2Proof.Machine.execRead object index field s
  | .write object index field value => Sys2Proof.Machine.execWrite object index field value s
  | .readAndClear object index field => Sys2Proof.Machine.execReadAndClear object index field s
  | .commit => Sys2Proof.Machine.execCommit s
  | .cancel => Sys2Proof.Machine.execCancel s
  | .portEnable index => Sys2Proof.Machine.execPortEnable index s
  | .portDrain index => Sys2Proof.Machine.execPortDrain index s
  | .portFlush index => Sys2Proof.Machine.execPortFlush index s
  | .clearCounters index => Sys2Proof.Machine.execClearCounters index s
  | .popEvent => Sys2Proof.Machine.execPopEvent s
  | .linkRestart => Sys2Proof.Machine.execLinkRestart s
  | .softReset => Sys2Proof.Machine.execSoftReset s
  | .unknownCommand code => Sys2Proof.Machine.execUnknownCommand code s
  | .chipSelectFall => Sys2Proof.Machine.execChipSelectFall s
  | .chipSelectRise => Sys2Proof.Machine.execChipSelectRise s
  | .spiClockRisingEdge dataIn => Sys2Proof.Machine.execSpiClockRisingEdge dataIn s
  | .linkReadyFallsWhileRestarting => Sys2Proof.Machine.execLinkReadyFallsWhileRestarting s

end Sys2Proof.Machine
end

