-- ==== Sys2Proof/Machine/Step.lean ====
section
/-! DEFINITION. One step of the block: the command at the front of the queue, or one memory clock
while no command waits (log 1). -/

namespace Sys2Proof.Machine

/-- The state with these commands waiting. -/
def State.withPending (s : State) (commands : List Instr) : State :=
  { s with pending := commands }

/-- Take the command at the front of the queue. -/
def step (s : State) : Host.Outcome State Fault Refusal :=
  match s.pending with
  | [] => .next s.memoryClock
  | c :: cs => exec c (s.withPending cs)

/-- The state with the command that a word spells at the front of its queue. No row of the table
gives bits, so it is always the state itself. -/
def State.withFetchWord (s : State) (nbits w : Nat) : State :=
  match decodeTableWord nbits w with
  | some c => s.withPending (c :: s.pending)
  | none => s

end Sys2Proof.Machine
end

