-- ==== Sys2Proof/Safety.lean ====
section
/-! DEFINITION. What a sound state of the BE-440 is: the facts that spec/ says hold at every moment,
as decidable propositions over State. Claims about every step are stated in these terms. -/

namespace Sys2Proof.Machine

/-! ### The schedule and the frame timer -/

/-- The conditions of Table 7, read one by one (R7, R8). -/
abbrev Schedule.Valid (sch : Schedule) : Prop :=
  64 ≤ sch.period.toNat
    ∧ sch.prescaler.toNat ∈ validPrescalers
    ∧ sch.count.toNat ≤ 8
    ∧ (∀ w, sch.inUse w = true → sch.closesAt w ≤ sch.period.toNat)
    ∧ (∀ w, sch.inUse w = true → 1 ≤ w.val → sch.opensAt (windowBefore w) < sch.opensAt w)
    ∧ (∀ w, sch.inUse w = true → 1 ≤ w.val →
        sch.closesAt (windowBefore w) + sch.guardTicks w ≤ sch.opensAt w)
    ∧ (sch.inUse 0 = true → sch.guardTicks 0 ≤ sch.opensAt 0)

/-- Every window length lies in its stored range, which begins at 1 (Table 6). -/
abbrev Schedule.LengthsStored (sch : Schedule) : Prop := ∀ w, 1 ≤ (sch.window w).length.toNat

/-- The active schedule is valid, a pending one too, and the frame tick and the memory clocks
counted lie inside the frame and the tick (R1, R3, R8). -/
abbrev State.TimerSound (s : State) : Prop :=
  s.active.Valid
    ∧ (s.commitPending = true → s.staged.Valid)
    ∧ s.active.LengthsStored ∧ s.staged.LengthsStored
    ∧ s.frameTick < s.active.period.toNat
    ∧ s.clocks < s.active.prescaler.toNat

/-- An occurrence is open exactly while the position is its window, and an open limited one has
charged and remaining beats that make up its budget (R15, R16, R18). -/
abbrev State.OccurrenceSound (s : State) (w : WindowId) : Prop :=
  ((s.occurrence w).isOpen = true ↔ s.active.inWindow s.frameTick w = true)
    ∧ ((s.occurrence w).isOpen = true →
        ((s.occurrence w).unlimited = true ↔ (s.active.window w).budget = 0))
    ∧ ((s.occurrence w).isOpen = true → (s.occurrence w).unlimited = false →
        (s.occurrence w).charged + (s.occurrence w).remaining
          = (s.active.window w).budget.toNat)

/-- Every occurrence record is sound. -/
abbrev State.OccurrencesSound (s : State) : Prop := ∀ w, s.OccurrenceSound w

/-! ### The outstanding table -/

/-- The slot is in RECEIVING (R65). -/
def Slot.isReceiving : Slot → Bool
  | .receiving _ _ _ => true
  | .free => false
  | .sending _ _ _ _ => false
  | .issued _ _ => false
  | .orphaned _ => false

/-- Two commands that may be in memory together: on different blocks, or both reads (R46). -/
abbrev Command.Compatible (c d : Command) : Prop :=
  c.block = d.block → c.kind = .read ∧ d.kind = .read

/-- No two non-FREE slots hold the same block unless both hold reads (R46). -/
abbrev State.BlocksExclusive (s : State) : Prop :=
  ∀ i j, i ≠ j → ∀ c ∈ (s.slot i).command?, ∀ d ∈ (s.slot j).command?, c.Compatible d

/-- At most one slot is in SENDING (R65). -/
abbrev State.OneSending (s : State) : Prop :=
  ∀ i j, (s.slot i).isSending = true → (s.slot j).isSending = true → i = j

/-- A slot in RECEIVING holds a read that has received no more beats than its length (Table 21). -/
def Slot.receivingSound : Slot → Bool
  | .receiving c _ beats => decide (c.kind = .read) && decide (beats.length ≤ c.length)
  | .free => true
  | .sending _ _ _ _ => true
  | .issued _ _ => true
  | .orphaned _ => true

/-- The completion channel and the slots agree on which completion is in progress (R65, R71, R77). -/
abbrev State.ChannelSound (s : State) : Prop :=
  (∀ i, (s.slot i).isReceiving = true →
      s.completion = .data i ∨ s.completion = .discard (some i))
    ∧ (∀ i, s.completion = .data i → (s.slot i).isReceiving = true)
    ∧ (∀ i, s.completion = .discard (some i) →
        (s.slot i).isReceiving = true ∨ (s.slot i).isOrphaned = true)

/-- The outstanding table is sound. -/
abbrev State.TableSound (s : State) : Prop :=
  s.BlocksExclusive ∧ s.OneSending ∧ s.ChannelSound ∧ ∀ i, (s.slot i).receivingSound = true

/-! ### Capacities -/

/-- The queue, the list and the in-flight limit of a port lie in their ranges (R34, R88, R61). -/
abbrev Port.Capacity (r : Port) : Prop :=
  r.queue.length ≤ Config.queueCapacity ∧ r.replies.length ≤ Config.replyCapacity
    ∧ 1 ≤ r.settings.inFlightLimit ∧ r.settings.inFlightLimit ≤ 16

/-- The counts of an occurrence record lie in their ranges (Table 8). -/
abbrev Occurrence.InRange (o : Occurrence) : Prop :=
  o.remaining ≤ 4095 ∧ o.charged ≤ Config.beatCountLimit ∧ o.lent ≤ Config.beatCountLimit

/-- The counts of a usage record lie in their ranges (R21). -/
abbrev Usage.InRange (u : Usage) : Prop :=
  u.charged ≤ Config.beatCountLimit ∧ u.lent ≤ Config.beatCountLimit

/-- A deadline count is absent or 1 to 65535 (R117). -/
def Deadline.inRange : Deadline → Bool
  | .absent => true
  | .ticks left => decide (1 ≤ left) && decide (left ≤ 65535)

/-- The deadline count of a slot that has one lies in its range (R117). -/
def Slot.countInRange : Slot → Bool
  | .free => true
  | .sending _ _ _ _ => true
  | .issued _ d => d.inRange
  | .receiving _ d _ => d.inRange
  | .orphaned _ => true

/-- Every list, count and store of the part is within its capacity (R21, R34, R37, R67, R82, R88,
R117, R148, R149, Table 8). -/
abbrev State.Capacities (s : State) : Prop :=
  (∀ p, (s.port p).Capacity)
    ∧ (∀ w, (s.occurrence w).InRange ∧ (look s.usage w).InRange)
    ∧ (∀ i, (s.slot i).countInRange = true)
    ∧ (∀ p, s.inFlightCount p ≤ 16)
    ∧ s.events.length ≤ Config.eventCapacity
    ∧ s.dropCount ≤ Config.dropLimit
    ∧ s.writeStoreUsed ≤ Config.writeStoreBeats
    ∧ s.readStoreUsed ≤ Config.readStoreBeats

/-! ### Ports and link -/

/-- The port is HALTED or IN_RESET (Table 36). -/
def PortMode.isStill : PortMode → Bool
  | .active => false
  | .draining => false
  | .halted => true
  | .inReset _ _ => true

/-- A HALTED port, and a port IN_RESET, has an empty queue and an empty reply list (R131, R139). -/
abbrev State.StillPortsEmpty (s : State) : Prop :=
  ∀ p, (s.port p).mode.isStill = true → (s.port p).queue = [] ∧ (s.port p).replies = []

/-- While the link is down every slot is FREE, but for the time of a device reset, during which the
link state is RESTARTING (R85, R87, R121, R123). -/
abbrev State.LinkSound (s : State) : Prop :=
  (s.deviceReset = true → s.link = .restarting)
    ∧ (s.deviceReset = false → s.link ≠ .up → ∀ i, s.slot i = .free)
    ∧ (s.link = .up → s.linkReady = true)

/-! ### Replies and their links -/

/-- The sequences of a list run from head to tail as consecutive numbers up to the next sequence
(R91). -/
abbrev Port.SequencesRun (r : Port) : Prop :=
  r.replies.map ReplyEntry.sequence
    = (List.range r.replies.length).map fun k =>
        r.nextSequence - BitVec.ofNat 8 (r.replies.length - k)

/-- The entry is READY. -/
def EntryState.isReady : EntryState → Bool
  | .ready _ _ => true
  | .waiting => false
  | .pending _ => false
  | .delivering _ _ _ => false

/-- The entry is DELIVERING. -/
def EntryState.isDelivering : EntryState → Bool
  | .delivering _ _ _ => true
  | .waiting => false
  | .pending _ => false
  | .ready _ _ => false

/-- The head is never left READY, and only the head is DELIVERING (R97). -/
abbrev Port.DeliverySound (r : Port) : Prop :=
  (∀ e ∈ r.replies.head?, e.state.isReady = false)
    ∧ ∀ e ∈ r.replies.tail, e.state.isDelivering = false

/-- The WAITING entries are those of the queued requests that are not posted, in order (R90). -/
abbrev Port.WaitingLinked (r : Port) : Prop :=
  (r.replies.filter fun e => decide (e.state = .waiting)).map ReplyEntry.sequence
    = (r.queue.filter fun q => !q.posted).map QueuedRequest.sequence

/-- Every PENDING entry is linked from the slot it names (R90). -/
abbrev State.PendingLinked (s : State) (p : PortId) : Prop :=
  ∀ e ∈ (s.port p).replies, ∀ i, e.state = .pending i →
    ∃ c ∈ (s.slot i).replyLink?, c.port = p ∧ c.sequence = e.sequence

/-- Every reply link of a slot leads to a PENDING entry that names the slot (R90). -/
abbrev State.LinksAnswered (s : State) : Prop :=
  ∀ i, ∀ c ∈ (s.slot i).replyLink?, ∃ e ∈ (s.port c.port).replies,
    e.sequence = c.sequence ∧ e.state = .pending i

/-- The replies of every port are sound. -/
abbrev State.RepliesSound (s : State) : Prop :=
  (∀ p, (s.port p).SequencesRun ∧ (s.port p).DeliverySound ∧ (s.port p).WaitingLinked
      ∧ s.PendingLinked p)
    ∧ s.LinksAnswered

/-! ### Decisions -/

/-- No grant decision is outstanding: a budget that the decision on the present state finds too
small is marked spent, if its occurrence is open (R43, R52). -/
abbrev State.DecisionTaken (s : State) : Prop :=
  s.mayDecide = true → ∀ w ∈ s.shortWindow,
    (s.occurrence w).isOpen = true → (s.occurrence w).spent = true

/-! ### The terms of the statements -/

/-- The state with the management frame in ANSWER right after its 64th bit, holding this result
(R157, R159). -/
def State.answers (s : State) (code : ResultCode) (value : Word32) : State :=
  { s with frame := .answer 64 ⟨code, value⟩ }

/-- The slots that expire at the next tick end, each once, in some order (R117, R119). -/
abbrev State.ExpiringSlots (s : State) (order : List SlotId) : Prop :=
  order.Nodup ∧ ∀ i, i ∈ order ↔
    (∃ c, s.slot i = .issued c (.ticks 1)) ∨ ∃ c beats, s.slot i = .receiving c (.ticks 1) beats

/-- The state with the reply list of port `p` replaced. -/
def State.withReplies (s : State) (p : PortId) (replies : List ReplyEntry) : State :=
  { s with ports := put s.ports p { s.port p with replies := replies } }

/-- The entry with its stage replaced. -/
def ReplyEntry.become (e : ReplyEntry) (state : EntryState) : ReplyEntry := { e with state := state }

/-- `e` is the entry that slot `i`, holding `c`, links to, and the list of its port is
`before ++ e :: after` (Tables 21 and 26). -/
abbrev State.LinkFound (s : State) (i : SlotId) (c : Command) (before : List ReplyEntry)
    (e : ReplyEntry) (after : List ReplyEntry) : Prop :=
  (s.port c.port).replies = before ++ e :: after ∧ e.sequence = c.sequence ∧ e.state = .pending i
    ∧ ∀ x ∈ before, x.sequence ≠ c.sequence

/-- `e` is the entry of queued request `q` of port `p`, and the list of the port is
`before ++ e :: after` (Tables 12 and 26). -/
abbrev State.QueueLinkFound (s : State) (p : PortId) (q : QueuedRequest)
    (before : List ReplyEntry) (e : ReplyEntry) (after : List ReplyEntry) : Prop :=
  (s.port p).replies = before ++ e :: after ∧ e.sequence = q.sequence ∧ e.state = .waiting
    ∧ ∀ x ∈ before, x.sequence ≠ q.sequence

/-- The port with a reply entry of this state appended for the request, taking the next sequence,
and begun if it is READY at the head (R91, R92, R97). -/
def Port.withEntry (r : Port) (tag : Tag) (kind : Kind) (state : EntryState) : Port :=
  { r with
    replies := beginDelivery
      (r.replies ++ [{ sequence := r.nextSequence, tag := tag, kind := kind, state := state }])
    nextSequence := r.nextSequence + 1 }

/-- Rule `k` is the first that covers the request (R108). -/
abbrev State.FirstCovering (s : State) (p : PortId) (kind : Kind) (block : Block) (k : RuleId) :
    Prop :=
  (look s.rules k).covers p kind block = true
    ∧ ∀ j < k, (look s.rules j).covers p kind block = false

/-- No rule covers the request (R108). -/
abbrev State.NoneCovering (s : State) (p : PortId) (kind : Kind) (block : Block) : Prop :=
  ∀ k, (look s.rules k).covers p kind block = false

/-- Slot `i` is in SENDING, and no other is (R65). -/
abbrev State.SendingFrom (s : State) (i : SlotId) (c : Command) (share : Option (List WriteBeat))
    (taken : Nat) (mark : Bool) : Prop :=
  s.slot i = .sending c share taken mark ∧ ∀ j, (s.slot j).isSending = true → j = i

end Sys2Proof.Machine
end

