-- ==== Sys2Proof/Certificates/Slice0/Obligations.lean ====
section
/-! DEFINITION. The statements for the provers. Where a conclusion is an equation `exec c s = .next t`
it says that the command completes, everything it changes, and that it changes nothing else. The
shared operations `record`, `recordAll`, `beginDelivery`, `drainCheck` and `takeDecision` stand in
several statements, and each has a statement of its own. -/

section Statements

open Sys2Proof Sys2Proof.Machine

/-! ### The whole machine -/

/-- A step takes the command at the front of the queue. With no command waiting it is one memory clock,
the last of which ends the tick (R1; that such a step is a memory clock is the model's choice,
log 1). -/
def Obligations.StepTakesTheFrontCommand : Prop :=
  (∀ (c : Instr) (cs : List Instr) (s : State), s.pending = c :: cs →
    step s = exec c { s with pending := cs })
  ∧ ∀ s : State, s.pending = [] →
      (s.deviceReset = true → step s = .next s)
      ∧ (s.deviceReset = false → s.clocks + 1 < s.active.prescaler.toNat →
          step s = .next { s with clocks := s.clocks + 1 })
      ∧ (s.deviceReset = false → s.active.prescaler.toNat ≤ s.clocks + 1 →
          step s = exec .tickEnd s)

/-- Every command of the table answers a next state in every state, whatever its operands, and leaves
the commands that wait behind it. That this holds also of a command that names an event which cannot
occur is the model's choice (log 3). It says nothing of a command's effect: the statements of the
commands do. -/
def Obligations.EveryCommandCompletes : Prop :=
  ∀ (c : Instr) (s : State), ∃ t, exec c s = .next t ∧ t.pending = s.pending

/-- What spec/ states of the part right after reset, in each of its units (R4, R8, R17, R21, R34, R61,
R63, R65, R71, R89, R113, R116, R126, R141, R147, R154, R156, R158). That each port is ACTIVE holds by
R141 at the levels of the port reset inputs that State.reset has, not asserted, which are the model's
choice (log 4). -/
def Obligations.ResetLeavesTheStatedValues : Prop :=
  let s := State.reset
  (s.tickCount = 0 ∧ s.frameTick = 0 ∧ s.frameNumber = 0 ∧ s.clocks = 0)
    ∧ (s.commitPending = false
        ∧ ∀ sch ∈ [s.active, s.staged],
            sch.period = 1024 ∧ sch.prescaler = 8 ∧ sch.count = 0
            ∧ ∀ w, sch.window w
                = { owner := 0, start := 0, length := 1, guard := 0, budget := 0, lend := false })
    ∧ (∀ w, s.occurrence w
          = { isOpen := false, remaining := 0, unlimited := false, spent := false, charged := 0,
              lent := 0 }
        ∧ look s.usage w = { charged := 0, lent := 0, spent := false })
    ∧ (∀ p, (s.port p).resetInput = false ∧ (s.port p).mode = .active ∧ (s.port p).queue = [] ∧ (s.port p).replies = []
        ∧ (s.port p).nextSequence = 0
        ∧ (s.port p).counters = { windowBeats := 0, bidBeats := 0, refused := 0, timeouts := 0 }
        ∧ (s.port p).settings
            = { weight := 0, startLevel := .one, ageLimit := 0, inFlightLimit := 8,
                posted := false })
    ∧ (s.threshold = 0 ∧ s.deadline = 4096 ∧ s.defaultAction = .pass)
    ∧ (∀ i, s.slot i = .free) ∧ s.completion = .awaitHeader
    ∧ (∀ k, look s.rules k
        = { enabled := false, firstBlock := 0, lastBlock := 0, portMask := 0, kinds := .read,
            action := .pass })
    ∧ s.link = .restarting
    ∧ (s.events = [] ∧ s.dropCount = 0 ∧ s.holder = none ∧ ∀ k, look s.enables k = true)
    ∧ s.frame = .unselected

/-- The reset state is sound in every sense the invariants use. -/
def Obligations.ResetIsSound : Prop :=
  State.reset.TimerSound ∧ State.reset.OccurrencesSound ∧ State.reset.TableSound
    ∧ State.reset.Capacities ∧ State.reset.StillPortsEmpty ∧ State.reset.LinkSound
    ∧ State.reset.RepliesSound ∧ State.reset.DecisionTaken

/-- While device reset is asserted, LINK_UP, LINK_DOWN and LINK_READY_FALLS_WHILE_RESTARTING set the
level of link ready, PORT_RESET_ASSERT and PORT_RESET_RELEASE that of their port's reset input, and
every other command but the release changes nothing (R4, R87, R89, R121, R141, R158). The following of
the levels, and that a second assertion of device reset does nothing, are the model's choice (log 3);
that the queues, lists, slots and settings stand until the release is inferred (log 9). -/
def Obligations.DeviceResetStandsStill : Prop :=
  ∀ s : State, s.deviceReset = true → s.LinkSound →
    exec .linkUp s = .next { s with linkReady := true }
    ∧ (∀ c ∈ [Instr.linkDown, .linkReadyFallsWhileRestarting],
        exec c s = .next { s with linkReady := false })
    ∧ (∀ p, exec (.portResetAssert p) s
        = .next { s with ports := put s.ports p { s.port p with resetInput := true } })
    ∧ (∀ p, exec (.portResetRelease p) s
        = .next { s with ports := put s.ports p { s.port p with resetInput := false } })
    ∧ ∀ c ∉ [Instr.linkUp, .linkDown, .linkReadyFallsWhileRestarting, .deviceResetRelease],
        (∀ p, c ≠ .portResetAssert p) → (∀ p, c ≠ .portResetRelease p) → exec c s = .next s

/-- The device reset and the soft reset. An assertion clears the event unit, drives link restart and
abandons the frame, and the rest stands. A release, and a SOFT_RESET, set every block, keep the input
levels and then record the posted writes lost. Each level change acts once (R87, R89, R126, R141,
R154, R158, R167). That the queues, lists, slots and settings stand from the assertion to the release
is inferred (log 9), and that a second change of the same level does nothing is the model's choice
(log 3). -/
def Obligations.ResetsSetEveryBlock : Prop :=
  ∀ s : State,
    (s.deviceReset = false →
      exec .deviceResetAssert s = .next
        { s with
          deviceReset := true, link := .restarting, events := [], dropCount := 0,
          holder := none, enables := tabulate fun _ => true, frame := .unselected })
    ∧ (s.deviceReset = true → exec .deviceResetAssert s = .next s)
    ∧ (s.deviceReset = true →
        exec .deviceResetRelease s = .next
          ({ State.reset with
              pending := s.pending, draws := s.draws, linkReady := s.linkReady,
              ports := tabulate fun p => Port.afterReset (s.port p).resetInput }.recordAll
            s.resetLosses))
    ∧ (s.deviceReset = false → exec .deviceResetRelease s = .next s)
    ∧ (s.deviceReset = false →
        exec .softReset s = .next
          (({ State.reset with
              pending := s.pending, draws := s.draws, linkReady := s.linkReady,
              ports := tabulate fun p => Port.afterReset (s.port p).resetInput }.recordAll
            s.resetLosses).answers .done 0))

/-! ### The frame timer and the schedule -/

/-- A tick end inside the frame: the frame tick and the tick count advance, windows ending here close
and write their usage records, windows starting here open with their budget, and a decision is taken
(R2, R3, R15, R16, R43). Then the slots whose count was 1 expire, one after another, in an order that
the spec leaves open and the model draws from a free value, `draws` counting the draws (R117, R119;
that the expiries follow the frame tick unless a DEADLINE_EXPIRY comes first is log 12). -/
def Obligations.TickEndAdvancesTheFrame : Prop :=
  ∀ s : State, s.deviceReset = false → s.frameTick + 1 < s.active.period.toNat →
    ∃ (t : State) (order : List SlotId), s.ExpiringSlots order
      ∧ exec .tickEnd s = .next (order.foldl State.expireSlot t.takeDecision)
      ∧ t = { s with
              draws := s.draws + 1
              clocks := 0, tickCount := s.tickCount + 1, frameTick := s.frameTick + 1
              slots := t.slots, occurrences := t.occurrences, usage := t.usage }
      ∧ (∀ i, t.slot i = (s.slot i).countDown)
      ∧ (∀ w, s.active.inUse w = true → s.active.opensAt w = s.frameTick + 1 →
          t.occurrence w
            = { isOpen := true, remaining := (s.active.window w).budget.toNat,
                unlimited := decide ((s.active.window w).budget = 0), spent := false,
                charged := 0, lent := 0 })
      ∧ (∀ w, s.active.inUse w = true → s.active.closesAt w = s.frameTick + 1 →
          look t.usage w
            = { charged := (s.occurrence w).charged, lent := (s.occurrence w).lent,
                spent := (s.occurrence w).spent }
          ∧ (s.active.opensAt w ≠ s.frameTick + 1 →
              t.occurrence w = { s.occurrence w with isOpen := false }))
      ∧ (∀ w, (s.active.inUse w = false ∨ s.active.closesAt w ≠ s.frameTick + 1) →
          look t.usage w = look s.usage w
          ∧ ((s.active.inUse w = false ∨ s.active.opensAt w ≠ s.frameTick + 1) →
              t.occurrence w = s.occurrence w))

/-- A tick end that completes the period is a frame start: windows ending at the period close, the
frame tick becomes 0, the frame number increases, a pending commit switches, and the windows of the
copy then active that start at 0 open (R3, R12, R14, R15, R16). A decision is taken (R43), and the
slots whose count was 1 then expire, one after another, in an order that the spec leaves open (R117,
R119, log 12). -/
def Obligations.TickEndStartsAFrame : Prop :=
  ∀ s : State, s.deviceReset = false → s.active.period.toNat ≤ s.frameTick + 1 →
    ∃ (t : State) (order : List SlotId), s.ExpiringSlots order
      ∧ exec .tickEnd s = .next (order.foldl State.expireSlot t.takeDecision)
      ∧ t.frameTick = 0 ∧ t.frameNumber = s.frameNumber + 1 ∧ t.tickCount = s.tickCount + 1
      ∧ t.clocks = 0 ∧ t.commitPending = false
      ∧ (s.commitPending = false →
          t = { s with
                draws := s.draws + 1, clocks := 0, tickCount := t.tickCount, frameTick := 0
                frameNumber := t.frameNumber, slots := t.slots
                occurrences := t.occurrences, usage := t.usage }
          ∧ ∀ w, look t.usage w
              = if s.active.inUse w ∧ s.active.closesAt w = s.active.period.toNat then
                  { charged := (s.occurrence w).charged, lent := (s.occurrence w).lent,
                    spent := (s.occurrence w).spent }
                else look s.usage w)
      ∧ (s.commitPending = true →
          t = { { s with
                  draws := s.draws + 1, clocks := 0, tickCount := t.tickCount, frameTick := 0
                  frameNumber := t.frameNumber, slots := t.slots, active := s.staged
                  commitPending := false, occurrences := t.occurrences
                  usage := tabulate fun _ => { charged := 0, lent := 0, spent := false } }.record
                .scheduleSwitched with occurrences := t.occurrences })
      ∧ (∀ i, t.slot i = (s.slot i).countDown)
      ∧ (∀ w, t.active.inUse w = true → t.active.opensAt w = 0 →
          t.occurrence w
            = { isOpen := true, remaining := (t.active.window w).budget.toNat,
                unlimited := decide ((t.active.window w).budget = 0), spent := false,
                charged := 0, lent := 0 })
      ∧ (∀ w, (t.active.inUse w = false ∨ t.active.opensAt w ≠ 0) →
          t.occurrence w
            = if s.active.inUse w ∧ s.active.closesAt w = s.active.period.toNat then
                { s.occurrence w with isOpen := false }
              else s.occurrence w)

/-- What a tick end leaves in each slot and in the timeout counters: a deadline count of 2 or more
counts down, a slot in ISSUED or RECEIVING whose count is 1 expires and is ORPHANED, every other slot
is as it was, and each port has counted as many timeouts as slots of its commands expired (R117, R118,
R119, R120, R130). -/
def Obligations.TickEndCountsDeadlines : Prop :=
  ∀ s : State, s.deviceReset = false →
    ∃ t, exec .tickEnd s = .next t
      ∧ (∀ i c n, s.slot i = .issued c (.ticks (n + 2)) → t.slot i = .issued c (.ticks (n + 1)))
      ∧ (∀ i c, s.slot i = .issued c (.ticks 1) → t.slot i = .orphaned c)
      ∧ (∀ i c n b, s.slot i = .receiving c (.ticks (n + 2)) b →
          t.slot i = .receiving c (.ticks (n + 1)) b)
      ∧ (∀ i c b, s.slot i = .receiving c (.ticks 1) b → t.slot i = .orphaned c)
      ∧ (∀ i c, s.slot i = .issued c .absent → t.slot i = s.slot i)
      ∧ (∀ i c b, s.slot i = .receiving c .absent b → t.slot i = s.slot i)
      ∧ (∀ i, (s.slot i).isFree = true ∨ (s.slot i).isSending = true
            ∨ (s.slot i).isOrphaned = true →
          t.slot i = s.slot i)
      ∧ ∀ p, (t.port p).counters
          = { (s.port p).counters with
              timeouts := (s.port p).counters.timeouts + BitVec.ofNat 32
                ((List.finRange 32).countP fun i => match s.slot i with
                  | .issued c (.ticks 1) => decide (c.port = p)
                  | .receiving c (.ticks 1) _ => decide (c.port = p)
                  | _ => false) }

/-- In a valid schedule the guard intervals and windows are disjoint, so the position is WINDOW `w`
exactly when the tick lies in window `w`, GUARD of `w` exactly when it lies in its guard interval,
and UNRESERVED exactly when it lies in neither of any window (R6, R7). -/
def Obligations.PositionsAreDisjoint : Prop :=
  ∀ (sch : Schedule) (tick : Nat) (w : WindowId), sch.Valid → sch.LengthsStored →
    (sch.position tick = .window w ↔ sch.inWindow tick w = true)
    ∧ (sch.position tick = .guard w ↔ sch.inGuard tick w = true)
    ∧ (sch.position tick = .unreserved ↔
        ∀ v, sch.inWindow tick v = false ∧ sch.inGuard tick v = false)

/-- The checks of Table 7 in their order: each row is the result exactly when it fails and every
earlier row holds, with the first failing window as the value, and no row fails exactly when the
schedule is valid (R7, R163). -/
def Obligations.ChecksFollowTableSeven : Prop :=
  ∀ sch : Schedule,
    let head := 64 ≤ sch.period.toNat ∧ sch.prescaler.toNat ∈ validPrescalers
      ∧ sch.count.toNat ≤ 8
    let row4 (w : WindowId) := sch.inUse w = true → sch.closesAt w ≤ sch.period.toNat
    let row5 (w : WindowId) := sch.inUse w = true → 1 ≤ w.val →
      sch.opensAt (windowBefore w) < sch.opensAt w
    let row6 (w : WindowId) := sch.inUse w = true → 1 ≤ w.val →
      sch.closesAt (windowBefore w) + sch.guardTicks w ≤ sch.opensAt w
    (sch.fault = some ⟨.badPeriod, 0⟩ ↔ sch.period.toNat < 64)
    ∧ (sch.fault = some ⟨.badPrescaler, 0⟩ ↔
        64 ≤ sch.period.toNat ∧ sch.prescaler.toNat ∉ validPrescalers)
    ∧ (sch.fault = some ⟨.badCount, 0⟩ ↔
        64 ≤ sch.period.toNat ∧ sch.prescaler.toNat ∈ validPrescalers ∧ 8 < sch.count.toNat)
    ∧ (∀ w : WindowId, sch.fault = some ⟨.windowPastPeriod, BitVec.ofNat 32 w.val⟩ ↔
        head ∧ ¬ row4 w ∧ ∀ v < w, row4 v)
    ∧ (∀ w : WindowId, sch.fault = some ⟨.windowOrder, BitVec.ofNat 32 w.val⟩ ↔
        head ∧ (∀ v, row4 v) ∧ ¬ row5 w ∧ ∀ v < w, row5 v)
    ∧ (∀ w : WindowId, 1 ≤ w.val →
        (sch.fault = some ⟨.guardOverlap, BitVec.ofNat 32 w.val⟩ ↔
          head ∧ (∀ v, row4 v) ∧ (∀ v, row5 v) ∧ ¬ row6 w ∧ ∀ v < w, row6 v))
    ∧ (sch.fault = some ⟨.guardOverlap, 0⟩ ↔
        head ∧ (∀ v, row4 v) ∧ (∀ v, row5 v) ∧ (∀ v, row6 v)
        ∧ sch.inUse 0 = true ∧ sch.opensAt 0 < sch.guardTicks 0)
    ∧ (sch.fault = none ↔ sch.Valid)

/-- COMMIT is refused while one is pending, answers the failing check, or makes the commit pending.
CANCEL clears commit pending, answers DONE, and changes nothing else (R10, R11, R163). -/
def Obligations.CommitAndCancel : Prop :=
  ∀ s : State, s.deviceReset = false →
    (s.commitPending = true → exec .commit s = .next (s.answers .stagedLocked 0))
    ∧ (s.commitPending = false → s.staged.Valid →
        exec .commit s = .next ({ s with commitPending := true : State }.answers .done 0))
    ∧ (s.commitPending = false → ¬ s.staged.Valid →
        ∃ r, s.staged.fault = some r ∧ exec .commit s = .next (s.answers r.code r.value))
    ∧ exec .cancel s = .next ({ s with commitPending := false : State }.answers .done 0)

/-- Every step keeps the active schedule valid, a pending one too, and the frame tick and the memory
clocks inside the frame and the tick (R1, R3, R8, R10). -/
def Obligations.TimerSoundKept : Prop :=
  ∀ s t : State, s.TimerSound → step s = .next t → t.TimerSound

/-- Every step keeps each occurrence open exactly while the frame tick is in its window, and the
charged and remaining beats of an open limited one summing to its budget (R15, R16, R18). -/
def Obligations.OccurrencesSoundKept : Prop :=
  ∀ s t : State, s.TimerSound → s.OccurrencesSound → step s = .next t → t.OccurrencesSound

/-! ### Request acceptance and access rules -/

/-- A request is held, and leaves no trace, while the port is not ACTIVE, its reply list is full, or
the request would be queued and its queue is full or the write store is short (R26, R27). -/
def Obligations.HeldRequestLeavesNoTrace : Prop :=
  ∀ (p : PortId) (r : Request) (s : State),
    ((s.port p).mode ≠ .active
      ∨ 32 ≤ (s.port p).replies.length
      ∨ (r.malformed = false ∧ (s.verdict p r.kind r.block).refused = false
          ∧ (16 ≤ (s.port p).queue.length ∨ s.writeStoreFree < shareBeats r.share))) →
    exec (.arrival p r) s = .next s

/-- A request is malformed exactly when its length is 0 or greater than 8, or its offset plus length is
greater than 8. A malformed request of an ACTIVE port with room in its reply list is answered
MALFORMED at arrival and recorded, whatever the rules, the queue and the write store, and nothing else
changes (R28, R29). -/
def Obligations.MalformedRequestIsAnswered : Prop :=
  ∀ r : Request,
    (r.malformed = true ↔ r.length = 0 ∨ 8 < r.length ∨ 8 < r.offset.val + r.length)
    ∧ ∀ (p : PortId) (s : State), s.deviceReset = false → (s.port p).mode = .active →
        (s.port p).replies.length < 32 → r.malformed = true →
        exec (.arrival p r) s = .next
          (({ s with
              ports := put s.ports p
                ((s.port p).withEntry r.tag r.kind (.ready .malformed [])) }).record
            (.malformedRequest p r.block (s.port p).nextSequence))

/-- A well-formed request that a rule or the default action refuses is answered REFUSED at arrival,
counted, and reported when the deciding rule reports (R26, R30, R109, R110). -/
def Obligations.RefusedRequestIsAnswered : Prop :=
  ∀ (p : PortId) (r : Request) (s : State), s.deviceReset = false → (s.port p).mode = .active →
    (s.port p).replies.length < 32 → r.malformed = false →
    let port := (s.port p).withEntry r.tag r.kind (.ready .refused [])
    let after : State := { s with
      ports := put s.ports p
        { port with counters := { port.counters with refused := port.counters.refused + 1 } } }
    (∀ k, s.FirstCovering p r.kind r.block k → (look s.rules k).action = .refuse →
        exec (.arrival p r) s = .next after)
    ∧ (∀ k, s.FirstCovering p r.kind r.block k → (look s.rules k).action = .refuseReport →
        exec (.arrival p r) s = .next
          (after.record (.ruleHit p r.block (s.port p).nextSequence r.kind true k)))
    ∧ (s.NoneCovering p r.kind r.block → s.defaultAction = .refuse →
        exec (.arrival p r) s = .next after)

/-- A well-formed request that passes, with room for it, joins its queue with its write beats, its
arrival tick, and the block and beat offset that its address divides into. Its entry is WAITING, or
READY with OK for a posted write. A PASS_REPORT rule reports it, and a decision is taken (R24, R26,
R31, R32, R38, R110). -/
def Obligations.PassedRequestIsQueued : Prop :=
  ∀ (p : PortId) (r : Request) (s : State), s.deviceReset = false → (s.port p).mode = .active →
    (s.port p).replies.length < 32 → r.malformed = false → (s.port p).queue.length < 16 →
    shareBeats r.share ≤ s.writeStoreFree →
    let posted := decide (r.kind = .write) && (s.port p).settings.posted
    let port := (s.port p).withEntry r.tag r.kind (if posted then .ready .ok [] else .waiting)
    let after : State := { s with
      ports := put s.ports p
        { port with
          queue := (s.port p).queue ++
            [{ kind := r.kind, block := BitVec.ofNat 34 (r.address.toNat / 8)
               offset := ⟨r.address.toNat % 8, Nat.mod_lt _ (by decide)⟩, length := r.length,
               arrivalTick := s.tickCount, posted := posted,
               sequence := (s.port p).nextSequence, share := r.share }] } }
    (∀ k, s.FirstCovering p r.kind r.block k → (look s.rules k).action = .pass →
        exec (.arrival p r) s = .next after.takeDecision)
    ∧ (∀ k, s.FirstCovering p r.kind r.block k → (look s.rules k).action = .passReport →
        exec (.arrival p r) s = .next
          (after.record
            (.ruleHit p r.block (s.port p).nextSequence r.kind false k)).takeDecision)
    ∧ (s.NoneCovering p r.kind r.block → s.defaultAction = .pass →
        exec (.arrival p r) s = .next after.takeDecision)

/-- A rule covers a request exactly when it is enabled, the block lies between its first and last
block, its port mask holds the port, and its kinds are the request's kind or BOTH (R107). -/
def Obligations.RuleCoverage : Prop :=
  ∀ (r : Rule) (p : PortId) (kind : Kind) (block : Block),
    r.covers p kind block = true ↔
      r.enabled = true
      ∧ r.firstBlock.toNat ≤ block.toNat ∧ block.toNat ≤ r.lastBlock.toNat
      ∧ r.portMask.getLsbD p.val = true
      ∧ (r.kinds = .both ∨ (r.kinds = .read ∧ kind = .read)
          ∨ (r.kinds = .write ∧ kind = .write))

/-! ### The grant arbiter -/

/-- The bid value of a port that bids, its ranges, and the order it gives: urgency, then weight, then
depth, then port number (R57). -/
def Obligations.BidValueOrdersPorts : Prop :=
  (∀ (u v : Bool) (weight weight' : BitVec 4) (depth depth' : Nat) (p q : PortId),
    1 ≤ depth → depth ≤ 16 → 1 ≤ depth' → depth' ≤ 16 →
    bidValue u weight.toNat depth p.val
        = 2048 * (if u then 1 else 0) + 128 * weight.toNat + 4 * depth + p.val
    ∧ 4 ≤ bidValue u weight.toNat depth p.val ∧ bidValue u weight.toNat depth p.val ≤ 4035
    ∧ (u = true → 2052 ≤ bidValue u weight.toNat depth p.val)
    ∧ (u = false → bidValue u weight.toNat depth p.val ≤ 1987)
    ∧ (bidValue u weight.toNat depth p.val < bidValue v weight'.toNat depth' q.val ↔
        (u = false ∧ v = true)
        ∨ (u = v ∧ weight.toNat < weight'.toNat)
        ∨ (u = v ∧ weight = weight' ∧ depth < depth')
        ∨ (u = v ∧ weight = weight' ∧ depth = depth' ∧ p < q)))
  ∧ ∀ (s : State) (p : PortId) (value : Nat), s.bid p = some value →
      ∃ q, s.grantableHead p = some q
        ∧ value = bidValue (s.urgent p q) (s.port p).settings.weight.toNat
            (s.port p).queue.length p.val

/-- The head of a port is grantable exactly when the port is ACTIVE or DRAINING, no slot holds its
block but reads on which a read may be, its in-flight count is below the limit, and a READ finds
room in the read store (R45, R46, R47, R48). -/
def Obligations.GrantableHeadConditions : Prop :=
  ∀ (s : State) (p : PortId) (q : QueuedRequest),
    s.grantableHead p = some q ↔
      (s.port p).queue.head? = some q
      ∧ ((s.port p).mode = .active ∨ (s.port p).mode = .draining)
      ∧ (∀ i, ∀ c ∈ (s.slot i).command?, c.block = q.block → c.kind = .read ∧ q.kind = .read)
      ∧ s.inFlightCount p < (s.port p).settings.inFlightLimit
      ∧ (q.kind = .read → q.length ≤ s.readStoreFree)

/-- The bids: a port with a grantable head bids when its depth is at least its start level or its
head is urgent, a bid enters when it is greater than the threshold, and the highest entering bid
names the port (R55, R56, R58). -/
def Obligations.HighestEnteringBidWins : Prop :=
  ∀ (s : State) (p : PortId),
    (∀ v, s.enteringBid p = some v ↔
      ∃ q, s.grantableHead p = some q
        ∧ ((s.port p).settings.startLevel.depth ≤ (s.port p).queue.length
            ∨ s.urgent p q = true)
        ∧ v = bidValue (s.urgent p q) (s.port p).settings.weight.toNat
            (s.port p).queue.length p.val
        ∧ s.threshold.toNat < v)
    ∧ (∀ q, s.urgent p q = true ↔
        (s.port p).settings.ageLimit ≠ 0
        ∧ (s.port p).settings.ageLimit.toNat ≤ (s.tickCount - q.arrivalTick).toNat)
    ∧ (s.bidWinner = some p ↔
        ∃ v, s.enteringBid p = some v
          ∧ ∀ q w, q ≠ p → s.enteringBid q = some w → w < v)
    ∧ (s.bidWinner = none ↔ ∀ q, s.enteringBid q = none)

/-- What the decision names at each position: nothing in a guard; the owner of a window whose
grantable head fits the budget; otherwise the winning bid, in a window only when it lends (R50, R51,
R53, R54). -/
def Obligations.DecisionByPosition : Prop :=
  ∀ s : State,
    (∀ w, s.position = .guard w → s.decision = none)
    ∧ (s.position = .unreserved → s.decision = s.bidWinner.map fun p => (p, .byBid))
    ∧ ∀ w, s.position = .window w →
        let owner := (s.active.window w).owner
        let fits (q : QueuedRequest) :=
          (s.occurrence w).unlimited = true ∨ q.length ≤ (s.occurrence w).remaining
        (∀ q, s.grantableHead owner = some q → fits q →
          s.decision = some (owner, .byWindow w))
        ∧ ((∀ q, s.grantableHead owner = some q → ¬ fits q) →
            ((s.active.window w).lend = false → s.decision = none)
            ∧ ((s.active.window w).lend = true →
                s.decision = s.bidWinner.map fun p => (p, .lent w)))

/-- A decision that finds the owner's grantable head too long for a limited open window marks it
spent and records BUDGET_SPENT once; every other decision, and the absence of one, changes nothing
(R19, R43, R52). -/
def Obligations.DecisionMarksAShortBudgetOnce : Prop :=
  ∀ s : State,
    (∀ w q, s.mayDecide = true → s.position = .window w →
      s.grantableHead (s.active.window w).owner = some q →
      (s.occurrence w).unlimited = false → (s.occurrence w).remaining < q.length →
      (s.occurrence w).isOpen = true →
      ((s.occurrence w).spent = false →
        s.takeDecision
          = { s with
              occurrences := put s.occurrences w { s.occurrence w with spent := true } }.record
              (.budgetSpent (s.active.window w).owner w))
      ∧ ((s.occurrence w).spent = true → s.takeDecision = s))
    ∧ (s.mayDecide = false → s.takeDecision = s)
    ∧ ((∀ w, s.position ≠ .window w) → s.takeDecision = s)
    ∧ (∀ w, s.position = .window w →
        (∀ q, s.grantableHead (s.active.window w).owner = some q →
          (s.occurrence w).unlimited = true ∨ q.length ≤ (s.occurrence w).remaining) →
        s.takeDecision = s)

/-- GRANT, when the decision names port `p`: its head `q` leaves the queue for the lowest-numbered
FREE slot, which enters SENDING; its reply entry, unless it is a posted write, becomes PENDING on
the slot; the beats are counted by the course of the grant; and a drained port halts (R18, R20, R59,
R66, R135). -/
def Obligations.GrantTakesTheLowestFreeSlot : Prop :=
  ∀ (s : State) (p : PortId) (course : Course) (q : QueuedRequest) (rest : List QueuedRequest)
    (i : SlotId),
    s.mayDecide = true → s.decision = some (p, course) → (s.port p).queue = q :: rest →
    s.slot i = .free → (∀ j < i, s.slot j ≠ .free) →
    let t := s.takeDecision
    let n := q.length
    let counters := (s.port p).counters
    let counted : Counters := match course with
      | .byWindow _ => { counters with windowBeats := counters.windowBeats + BitVec.ofNat 32 n }
      | .lent _ => { counters with bidBeats := counters.bidBeats + BitVec.ofNat 32 n }
      | .byBid => { counters with bidBeats := counters.bidBeats + BitVec.ofNat 32 n }
    let o (w : WindowId) : Occurrence := t.occurrence w
    let occurrences : Vector Occurrence 8 := match course with
      | .byWindow w => put t.occurrences w
          (if (o w).isOpen then
            { o w with
              charged := min 65535 ((o w).charged + n)
              remaining := if (o w).unlimited then (o w).remaining else (o w).remaining - n }
           else o w)
      | .lent w => put t.occurrences w
          (if (o w).isOpen then { o w with lent := min 65535 ((o w).lent + n) } else o w)
      | .byBid => t.occurrences
    let granted (replies : List ReplyEntry) : State :=
      { t with
        ports := put s.ports p
          { s.port p with queue := rest, replies := replies, counters := counted }
        slots := put s.slots i
          (.sending
            { port := p, kind := q.kind, block := q.block, offset := q.offset,
              length := q.length, sequence := q.sequence, posted := q.posted }
            q.share 0 false)
        occurrences := occurrences }
    (q.posted = true →
      exec .grant s = .next ((granted (s.port p).replies).drainCheck p))
    ∧ (∀ before e after, q.posted = false → s.QueueLinkFound p q before e after →
        exec .grant s = .next
          ((granted (before ++ e.become (.pending i) :: after)).drainCheck p))

/-- GRANT names no port: a decision is taken only while the link is up, no slot is in SENDING and a
slot is FREE, and a decision that names no port only makes the spent mark (R43, R44, R50, R53). -/
def Obligations.NoGrantWithoutANamedPort : Prop :=
  ∀ s : State,
    (s.mayDecide = true ↔
      s.link = .up ∧ (∀ i, (s.slot i).isSending = false) ∧ ∃ i, s.slot i = .free)
    ∧ (s.mayDecide = false → exec .grant s = .next s)
    ∧ (s.mayDecide = true → s.decision = none → exec .grant s = .next s.takeDecision)
    ∧ (∀ w, s.position = .guard w → exec .grant s = .next s)

/-- Every step leaves no budget that the decision on its state would find short and unmarked: the
decision is taken again at every change of the state it reads (R19, R43, R52). That its spent mark is
set within the event that changes that state, at a port reset too, and not with the grant that
follows, is inferred (log 5). -/
def Obligations.DecisionTakenKept : Prop :=
  ∀ s t : State, s.StillPortsEmpty → s.DecisionTaken → step s = .next t → t.DecisionTaken

/-! ### The outstanding table and the memory port -/

/-- Every step keeps the outstanding table sound: no two slots on one block unless both hold reads,
one transfer, one completion, and no read with more beats than its length (R46, R65, R71, R75). -/
def Obligations.TableSoundKept : Prop :=
  ∀ s t : State, s.TableSound → step s = .next t → t.TableSound

/-- A command in transfer: its items are its header, with the address formed again from block and
offset, and then the beats of its share in order, each with its mask. The taking of an item that is
not the last counts it. At the transfer end the last item is taken, the write store share goes, the
slot is ISSUED with the global deadline loaded (none when it is 0), or ORPHANED when it is marked, and
a decision is taken (R25, R39, R68, R69, R70). -/
def Obligations.CommandTransfersItemByItem : Prop :=
  ∀ (s : State) (i : SlotId) (c : Command) (share : Option (List WriteBeat)) (taken : Nat)
    (mark : Bool), s.deviceReset = false → s.SendingFrom i c share taken mark →
    let after (x : Slot) : State := { s with slots := put s.slots i x }
    (s.commandOffered
      = (CommandItem.header i c.kind (BitVec.ofNat 37 (c.block.toNat * 8 + c.offset.val)) c.length
          :: (share.getD []).map .beat)[taken]?)
    ∧ (taken < shareBeats share →
        exec .commandItemTaken s = .next (after (.sending c share (taken + 1) mark)))
    ∧ (taken = shareBeats share → mark = true →
        exec .transferEnd s = .next (after (.orphaned c)).takeDecision)
    ∧ (taken = shareBeats share → mark = false → s.deadline = 0 →
        exec .transferEnd s = .next (after (.issued c .absent)).takeDecision)
    ∧ (taken = shareBeats share → mark = false → s.deadline ≠ 0 →
        exec .transferEnd s = .next
          (after (.issued c (.ticks s.deadline.toNat))).takeDecision)

/-- A GOOD completion of an ISSUED write frees its slot and settles its entry OK; that of a posted
write settles nothing (R73, R94, R96, R97). -/
def Obligations.WriteCompletionSettlesOk : Prop :=
  ∀ (s : State) (i : SlotId) (c : Command) (d : Deadline), s.deviceReset = false → s.link = .up →
    s.completion = .awaitHeader → s.slot i = .issued c d → c.kind = .write →
    let freed : State := { s with slots := put s.slots i .free }
    (c.posted = true →
      exec (.completionHeader i .write .good) s = .next freed.takeDecision)
    ∧ (∀ before e after, c.posted = false → s.LinkFound i c before e after →
        exec (.completionHeader i .write .good) s = .next
          (freed.withReplies c.port
            (beginDelivery (before ++ e.become (.ready .ok []) :: after))).takeDecision)

/-- A FAULT completion of an ISSUED read or write frees its slot, settles its entry DATA_ERROR and
records MEMORY_FAULT, and for a posted write POSTED_WRITE_FAILED after it (R73, R74). -/
def Obligations.FaultCompletionSettlesDataError : Prop :=
  ∀ (s : State) (i : SlotId) (c : Command) (d : Deadline), s.deviceReset = false → s.link = .up →
    s.completion = .awaitHeader → s.slot i = .issued c d →
    let freed : State := { s with slots := put s.slots i .free }
    (c.posted = true →
      exec (.completionHeader i c.kind .fault) s = .next
        ((freed.record (.memoryFault c.port i c.block c.sequence)).record
          (.postedWriteFailed c.port (some i) c.block c.sequence .fault)).takeDecision)
    ∧ (∀ before e after, c.posted = false → s.LinkFound i c before e after →
        exec (.completionHeader i c.kind .fault) s = .next
          ((freed.withReplies c.port
            (beginDelivery (before ++ e.become (.ready .dataError []) :: after))).record
              (.memoryFault c.port i c.block c.sequence)).takeDecision)

/-- A header for an ORPHANED slot of its kind is late: a GOOD read's beats are to be discarded, and
any other completion ends there, freeing the slot and recording LATE_COMPLETION. A header for a slot
that is FREE or SENDING, or whose command is of the other kind, is stray: it is recorded, with the
port of the slot's command, and touches no slot (R77, R78). -/
def Obligations.LateAndStrayHeaders : Prop :=
  ∀ (s : State) (i : SlotId) (kind : Kind) (status : MemStatus), s.deviceReset = false →
    s.link = .up → s.completion = .awaitHeader →
    (∀ c, s.slot i = .orphaned c → c.kind = kind → kind = .read → status = .good →
      exec (.completionHeader i kind status) s
        = .next { s with completion := .discard (some i) })
    ∧ (∀ c, s.slot i = .orphaned c → c.kind = kind → (kind = .write ∨ status = .fault) →
        exec (.completionHeader i kind status) s = .next
          ({ s with slots := put s.slots i .free : State }.record
            (.lateCompletion c.port i c.block c.sequence status)).takeDecision)
    ∧ (((s.slot i).isFree = true ∨ (s.slot i).isSending = true
          ∨ ∃ c ∈ (s.slot i).command?, c.kind ≠ kind) →
        exec (.completionHeader i kind status) s = .next
          ({ s with
              completion := if kind = .read ∧ status = .good then .discard none
                else .awaitHeader : State }.record
            (.strayHeader ((s.slot i).command?.map Command.port) i status)))

/-- A header taken while a completion is in progress ends it, as a mismatch for a slot in RECEIVING and
as a late completion for an orphan, and is then classified as in AWAIT_HEADER (R76, R77, R78). -/
def Obligations.HeaderEndsTheCompletionInProgress : Prop :=
  ∀ (s : State) (i j : SlotId) (c : Command) (kind : Kind) (status : MemStatus),
    s.deviceReset = false → s.link = .up →
    let freed : State := { s with slots := put s.slots j .free, completion := .awaitHeader }
    (∀ d beats before e after,
      (s.completion = .data j ∨ s.completion = .discard (some j)) →
      s.slot j = .receiving c d beats → c.posted = false → s.LinkFound j c before e after →
      exec (.completionHeader i kind status) s = .next
        ((((freed.withReplies c.port
            (beginDelivery (before ++ e.become (.ready .dataError []) :: after))).record
          (.completionMismatch c.port j c.block c.sequence)).classifyHeader i kind
            status).takeDecision))
    ∧ (s.completion = .discard (some j) → s.slot j = .orphaned c →
        exec (.completionHeader i kind status) s = .next
          (((freed.record (.lateCompletion c.port j c.block c.sequence .good)).classifyHeader i
            kind status).takeDecision))
    ∧ (s.completion = .discard none →
        exec (.completionHeader i kind status) s
          = exec (.completionHeader i kind status) { s with completion := .awaitHeader })

/-- A GOOD header of an ISSUED read begins its data: the slot is RECEIVING with no beat and the deadline
count it had, and the channel is in DATA for it. A beat below the length is placed; the last-marked
beat that fills the length frees the slot and settles the entry OK with the data (R75, R76, R95). -/
def Obligations.ReadDataFillsTheReply : Prop :=
  ∀ (s : State) (i : SlotId) (c : Command) (d : Deadline), s.deviceReset = false → s.link = .up →
    (s.completion = .awaitHeader → s.slot i = .issued c d → c.kind = .read →
      exec (.completionHeader i .read .good) s = .next
        { s with
          slots := put s.slots i (.receiving c d []), completion := .data i : State }.takeDecision)
    ∧ ∀ (beats : List BeatData) (data : BeatData), s.completion = .data i →
        s.slot i = .receiving c d beats →
        (beats.length < c.length →
          exec (.readBeat data false) s = .next
            { s with slots := put s.slots i (.receiving c d (beats ++ [data])) })
        ∧ (∀ before e after, beats.length + 1 = c.length → c.posted = false →
            s.LinkFound i c before e after →
            exec (.readBeat data true) s = .next
              (({ s with slots := put s.slots i .free, completion := .awaitHeader }.withReplies
                c.port (beginDelivery
                  (before ++ e.become (.ready .ok (beats ++ [data])) :: after))).takeDecision))

/-- A read that does not return exactly its length is a mismatch: a last marker too early, or on a
beat too many, frees the slot, settles DATA_ERROR and records COMPLETION_MISMATCH, and a beat too
many without the marker turns the channel to DISCARD (R75, R76). -/
def Obligations.ReadMismatchSettlesDataError : Prop :=
  ∀ (s : State) (i : SlotId) (c : Command) (d : Deadline) (beats : List BeatData)
    (data : BeatData), s.deviceReset = false → s.link = .up → s.slot i = .receiving c d beats →
    (∀ before e after, c.posted = false → s.LinkFound i c before e after →
      ((s.completion = .data i ∧ beats.length + 1 ≠ c.length)
        ∨ s.completion = .discard (some i)) →
      exec (.readBeat data true) s = .next
        ((({ s with slots := put s.slots i .free, completion := .awaitHeader }.withReplies
          c.port (beginDelivery
            (before ++ e.become (.ready .dataError []) :: after))).record
              (.completionMismatch c.port i c.block c.sequence)).takeDecision))
    ∧ (s.completion = .data i → c.length ≤ beats.length →
        exec (.readBeat data false) s = .next { s with completion := .discard (some i) })

/-- Items outside a read in DATA: while the link is not UP every item is taken and discarded; in
DISCARD beats are discarded up to the last marker, which ends a late completion; and a beat in
AWAIT_HEADER begins a stray run (R71, R77, R78). -/
def Obligations.OtherItemsAreDiscarded : Prop :=
  ∀ (s : State) (data : BeatData) (last : Bool),
    (s.link ≠ .up → exec (.readBeat data last) s = .next s
      ∧ ∀ i kind status, exec (.completionHeader i kind status) s = .next s)
    ∧ (s.deviceReset = false → s.link = .up →
        (∀ x, s.completion = .discard x → exec (.readBeat data false) s = .next s)
        ∧ (s.completion = .discard none →
            exec (.readBeat data true) s = .next { s with completion := .awaitHeader })
        ∧ (∀ i c, s.completion = .discard (some i) → s.slot i = .orphaned c →
            exec (.readBeat data true) s = .next
              ({ s with
                  slots := put s.slots i .free, completion := .awaitHeader : State }.record
                (.lateCompletion c.port i c.block c.sequence .good)).takeDecision)
        ∧ (s.completion = .awaitHeader →
            exec (.readBeat data last) s = .next
              ({ s with completion := if last then .awaitHeader else .discard none : State }.record
                .strayBeats)))

/-! ### Deadlines and the link -/

/-- The expiry of a slot in ISSUED or RECEIVING orphans it, turns a DATA for it to DISCARD, settles the
entry TIMEOUT, counts it and records TIMEOUT, and for a posted write POSTED_WRITE_FAILED after it; any
other slot does not expire (R79, R118, R119, R120, R130). DEADLINE_EXPIRY is that expiry for a slot
whose count of 1 ends at the tick end falling with it, taken before that tick end, whose memory clocks
have passed (log 12). For a slot whose count does not end there, it changes nothing (log 3). -/
def Obligations.DeadlineExpiryOrphansTheSlot : Prop :=
  ∀ (s : State) (i : SlotId),
    (∀ (c : Command) (state : ExpiryState),
      ((state = .issued ∧ ∃ d, s.slot i = .issued c d)
        ∨ (state = .receiving ∧ ∃ d beats, s.slot i = .receiving c d beats)) →
      let orphaned (replies : List ReplyEntry) : State :=
        { s with
          slots := put s.slots i (.orphaned c)
          completion := if state = .receiving ∧ s.completion = .data i then .discard (some i)
            else s.completion
          ports := put s.ports c.port
            { s.port c.port with
              replies := replies
              counters := { (s.port c.port).counters with
                timeouts := (s.port c.port).counters.timeouts + 1 } } }
      (c.posted = true →
        s.expireSlot i
          = (((orphaned (s.port c.port).replies).record
              (.timeout c.port i c.block c.sequence state)).record
                (.postedWriteFailed c.port (some i) c.block c.sequence .timeout)).takeDecision)
      ∧ (∀ before e after, c.posted = false → s.LinkFound i c before e after →
          s.expireSlot i
            = ((orphaned
                  (beginDelivery (before ++ e.become (.ready .timeout []) :: after))).record
                (.timeout c.port i c.block c.sequence state)).takeDecision))
    ∧ ((s.slot i).isFree = true ∨ (s.slot i).isSending = true ∨ (s.slot i).isOrphaned = true →
        s.expireSlot i = s)
    ∧ (s.deviceReset = false →
        ((∃ c, s.slot i = .issued c (.ticks 1)) ∨ (∃ c b, s.slot i = .receiving c (.ticks 1) b) →
          exec (.deadlineExpiry i) s
            = .next ({ s with clocks := s.active.prescaler.toNat - 1 : State }.expireSlot i))
        ∧ ((∀ c, s.slot i ≠ .issued c (.ticks 1)) → (∀ c b, s.slot i ≠ .receiving c (.ticks 1) b) →
            exec (.deadlineExpiry i) s = .next s))

/-- The posted writes a link down or a reset reports as lost: those in SENDING or ISSUED, in rising
order of slot, and for a reset those of the queues after them, by port and oldest first (R87, R122,
R146, R148, R154). -/
def Obligations.LostPostedWritesAreReported : Prop :=
  ∀ (s : State) (cause : LossCause),
    (∀ o, o ∈ s.slotLosses cause ↔
      ∃ i c, ((∃ share taken mark, s.slot i = .sending c share taken mark)
          ∨ ∃ d, s.slot i = .issued c d)
        ∧ c.posted = true
        ∧ o = .postedWriteFailed c.port (some i) c.block c.sequence cause)
    ∧ (s.slotLosses cause).Pairwise
        (fun a b => ∀ i j p b₁ q₁ p' b₂ q₂, a = .postedWriteFailed p (some i) b₁ q₁ cause →
          b = .postedWriteFailed p' (some j) b₂ q₂ cause → i < j)
    ∧ (∀ p, s.queueLosses p cause
        = ((s.port p).queue.filter fun q => q.posted).map
            fun q => .postedWriteFailed p none q.block q.sequence cause)
    ∧ s.resetLosses
        = s.slotLosses .deviceReset
          ++ (s.queueLosses 0 .deviceReset ++ (s.queueLosses 1 .deviceReset
            ++ (s.queueLosses 2 .deviceReset ++ s.queueLosses 3 .deviceReset)))

/-- Link ready falls while the link is UP, or LINK_RESTART is taken there: every slot is freed, every
PENDING entry is settled LINK_RESET in its place, the channels are idle, LINK_DOWN is recorded and
the posted writes lost after it, and nothing else changes (R85, R104, R122, R125). -/
def Obligations.LinkDownFreesEverySlot : Prop :=
  ∀ s : State, s.deviceReset = false → s.link = .up → (∀ p, s.PendingLinked p) →
    let reset (e : ReplyEntry) : ReplyEntry :=
      match e.state with
      | .pending _ => e.become (.ready .linkReset [])
      | .waiting => e
      | .ready _ _ => e
      | .delivering _ _ _ => e
    let down (cause : DownCause) (link : LinkState) (ready : Bool) : State :=
      ({ s with
          linkReady := ready
          slots := tabulate fun _ => .free
          ports := tabulate fun p =>
            { s.port p with replies := beginDelivery ((s.port p).replies.map reset) }
          completion := .awaitHeader
          link := link }.record (.linkDown cause)).recordAll (s.slotLosses .linkDown)
    exec .linkDown s = .next (down .readyFell .down false)
    ∧ exec .linkRestart s = .next
        ((down .restart .restarting s.linkReady).answers .done 2)

/-- The link state machine apart from a link down: a fall while RESTARTING, a rise, and a LINK_RESTART
while not UP (R121, R122, R124, R125). That a fall while DOWN, which R122 says cannot occur, only sets
the input low, and that a rise of an input already high does nothing, is the model's choice (log 3). -/
def Obligations.LinkRisesFallsAndRestarts : Prop :=
  ∀ s : State, s.deviceReset = false →
    (s.link ≠ .up →
      exec .linkReadyFallsWhileRestarting s = .next { s with linkReady := false }
      ∧ exec .linkDown s = .next { s with linkReady := false })
    ∧ (s.link ≠ .up → s.linkReady = false →
        exec .linkUp s = .next
          ({ s with linkReady := true, link := .up }.record .linkUp).takeDecision)
    ∧ (s.linkReady = true → exec .linkUp s = .next s)
    ∧ (s.link ≠ .up →
        exec .linkRestart s = .next ({ s with link := .restarting }.answers .done 2))

/-- Every step keeps a HALTED port and a port in reset empty, and the slots FREE while the link is
down (R85, R87, R121, R123, R131, R139). -/
def Obligations.LinkAndPortsSoundKept : Prop :=
  ∀ s t : State, s.LinkSound → s.StillPortsEmpty → step s = .next t →
    t.LinkSound ∧ t.StillPortsEmpty

/-! ### Replies -/

/-- The items of a reply in order: its header, and the beats of its data with the last marker on the
last. Taking one that is not the last counts it, and taking the last removes the entry, begins the
next if it is READY (which is what `beginDelivery` does), and makes the drain check and a decision
(R97, R98, R99, R135). -/
def Obligations.RepliesAreDeliveredInOrder : Prop :=
  (∀ (s : State) (p : PortId) (e : ReplyEntry) (rest : List ReplyEntry) (status : ReplyStatus)
    (data : List BeatData) (taken : Nat), s.deviceReset = false →
    (s.port p).replies = e :: rest → e.state = .delivering status data taken →
    (taken = 0 → s.replyOffered p = some (.header e.tag e.kind status))
    ∧ (∀ k (h : k < data.length), taken = k + 1 →
        s.replyOffered p = some (.beat data[k] (decide (k + 1 = data.length))))
    ∧ (taken < data.length →
        exec (.replyItemTaken p) s = .next
          (s.withReplies p (e.become (.delivering status data (taken + 1)) :: rest)))
    ∧ (taken = data.length →
        exec (.deliveryEnd p) s = .next
          (((s.withReplies p (beginDelivery rest)).drainCheck p).takeDecision)))
  ∧ (∀ (e : ReplyEntry) (rest : List ReplyEntry) (status : ReplyStatus) (data : List BeatData),
      e.state = .ready status data →
      beginDelivery (e :: rest) = e.become (.delivering status data 0) :: rest)
  ∧ ∀ replies : List ReplyEntry,
      (∀ e ∈ replies.head?, e.state.isReady = false) → beginDelivery replies = replies

/-- Every step keeps the replies sound: sequences run from head to tail, the head is never left READY
and only the head is delivered, every WAITING entry has its queued request and every PENDING entry
its slot, in both directions (R90, R91, R93, R94, R97, R100, R104). -/
def Obligations.RepliesSoundKept : Prop :=
  ∀ s t : State, s.RepliesSound → s.Capacities → s.StillPortsEmpty → step s = .next t →
    t.RepliesSound

/-- Every step keeps every list, count and store within its capacity: queues, reply lists, in-flight
counts and limits, the remaining, charged and lent beats of occurrences and usage records, deadline
counts, the event queue, the drop count and both stores (R21, R34, R37, R67, R82, R88, R117, R148, R149,
Table 8). -/
def Obligations.CapacitiesKept : Prop :=
  ∀ s t : State, s.Capacities → s.TableSound → step s = .next t → t.Capacities

/-! ### Port control -/

/-- PORT_ENABLE and PORT_DRAIN by the port state, with their results, and the drain check: a DRAINING
port with an empty queue and an empty list becomes HALTED and records PORT_HALTED, and any other port
is as it was (R132, R133, R135, R164). -/
def Obligations.EnableAndDrainByPortState : Prop :=
  ∀ (s : State) (p : PortId) (index : Byte), s.deviceReset = false → index.toNat = p.val →
    let entered (mode : PortMode) : State :=
      { s with ports := put s.ports p { s.port p with mode := mode } }
    let code (t : State) : Word32 := BitVec.ofNat 32 (t.port p).mode.code
    ((s.port p).mode = .active →
      exec (.portEnable index) s = .next (s.answers .done 0)
      ∧ exec (.portDrain index) s = .next
          (((entered .draining).drainCheck p).answers .done
            (code ((entered .draining).drainCheck p))))
    ∧ ((s.port p).mode = .draining →
        exec (.portEnable index) s = .next ((entered .active).answers .done 0)
        ∧ exec (.portDrain index) s = .next (s.answers .done 1))
    ∧ ((s.port p).mode = .halted →
        exec (.portEnable index) s = .next ((entered .active).answers .done 0)
        ∧ exec (.portDrain index) s = .next (s.answers .done 2))
    ∧ (∀ x y, (s.port p).mode = .inReset x y →
        exec (.portEnable index) s = .next (s.answers .notAllowed 3)
        ∧ exec (.portDrain index) s = .next (s.answers .notAllowed 3))
    ∧ ((s.port p).mode = .draining ∧ (s.port p).queue = [] ∧ (s.port p).replies = [] →
        s.drainCheck p = (entered .halted).record (.portHalted p .drained))
    ∧ (¬ ((s.port p).mode = .draining ∧ (s.port p).queue = [] ∧ (s.port p).replies = []) →
        s.drainCheck p = s)

/-- PORT_FLUSH of an ACTIVE or DRAINING port: the queue is emptied, every WAITING entry is settled
ABORTED in its place, the posted writes lost are recorded oldest first, the port is DRAINING, and the
drain check is made. In HALTED it changes nothing, and in reset it is refused (R104, R134, R164). -/
def Obligations.FlushAbortsTheQueue : Prop :=
  ∀ (s : State) (p : PortId) (index : Byte), s.deviceReset = false → index.toNat = p.val →
    (((s.port p).mode = .active ∨ (s.port p).mode = .draining) → (s.port p).WaitingLinked →
      let aborted (e : ReplyEntry) : ReplyEntry :=
        if e.state = .waiting then e.become (.ready .aborted []) else e
      let lost := ((s.port p).queue.filter fun q => q.posted).map fun q =>
        Occasion.postedWriteFailed p none q.block q.sequence .flush
      let t : State := (({ s with
        ports := put s.ports p
          { s.port p with
            mode := .draining, queue := []
            replies := beginDelivery ((s.port p).replies.map aborted) } }).recordAll
              lost).drainCheck p
      exec (.portFlush index) s = .next
        (t.answers .done (BitVec.ofNat 32 (t.port p).mode.code)))
    ∧ ((s.port p).mode = .halted → exec (.portFlush index) s = .next (s.answers .done 2))
    ∧ (∀ x y, (s.port p).mode = .inReset x y →
        exec (.portFlush index) s = .next (s.answers .notAllowed 3))

/-- The assertion of a port's reset input: its queue and list are emptied, its state kept for the
return, its slots orphaned or marked, a DATA for one of them turned to DISCARD, and its queued posted
writes recorded as lost. The other ports, their slots and every setting stay (R36, R70, R79, R102,
R137, R138). A grant decision is taken on the read store room it releases (R43, R84); that its spent
mark, with a BUDGET_SPENT record, is set within the assertion is inferred (log 5). -/
def Obligations.PortResetEmptiesThePort : Prop :=
  ∀ (s : State) (p : PortId), s.deviceReset = false → s.TableSound →
    (s.port p).mode.code ≠ 3 →
    ∃ t : State, exec (.portResetAssert p) s = .next
        (t.recordAll (s.queueLosses p .portReset)).takeDecision
      ∧ t = { s with slots := t.slots, completion := t.completion
                     ports := put s.ports p
                      { s.port p with
                        queue := [], replies := [], resetInput := true
                        mode := .inReset
                          (if (s.port p).mode = .active then .active else .halted)
                          (decide ((s.port p).mode = .draining)) } }
      ∧ (∀ i c, (s.slot i).command? = some c → c.port ≠ p → t.slot i = s.slot i)
      ∧ (∀ i c, c.port = p → (∃ d, s.slot i = .issued c d) → t.slot i = .orphaned c)
      ∧ (∀ i c, c.port = p → (∃ d b, s.slot i = .receiving c d b) → t.slot i = .orphaned c)
      ∧ (∀ i c share n m, c.port = p → s.slot i = .sending c share n m →
          t.slot i = .sending c share n true)
      ∧ (∀ i, ((s.slot i).isFree = true ∨ (s.slot i).isOrphaned = true) → t.slot i = s.slot i)
      ∧ (∀ i c d b, s.completion = .data i → s.slot i = .receiving c d b →
          t.completion = if c.port = p then .discard (some i) else .data i)
      ∧ ((∀ i, s.completion ≠ .data i) → t.completion = s.completion)

/-- The release of a port's reset input returns the port to the state kept, with the next sequence
0, and records PORT_HALTED when the port was DRAINING at the assertion (R131, R140). -/
def Obligations.PortResetReleaseReturns : Prop :=
  ∀ (s : State) (p : PortId) (x : ReturnState) (report : Bool), s.deviceReset = false →
    (s.port p).mode = .inReset x report →
    let t : State := { s with
      ports := put s.ports p
        { s.port p with
          mode := if x = .active then .active else .halted
          resetInput := false, nextSequence := 0 } }
    (report = false → exec (.portResetRelease p) s = .next t)
    ∧ (report = true → exec (.portResetRelease p) s = .next (t.record (.portHalted p .resetRelease)))

/-! ### Events -/

/-- Offering a record: of an enabled kind it joins a queue of fewer than 32 records with the present
frame number and frame tick, or is dropped and counted up to 255; of a disabled kind it is nothing.
Several are offered one after another (R145, R147, R148, R149). -/
def Obligations.RecordsJoinOrAreDropped : Prop :=
  ∀ (s : State) (o : Occasion),
    (look s.enables o.kindCode = false → s.record o = s)
    ∧ (look s.enables o.kindCode = true → s.events.length < 32 →
        s.record o = { s with
          events := s.events ++
            [{ frameNumber := s.frameNumber, frameTick := s.frameTick, occasion := o }] })
    ∧ (look s.enables o.kindCode = true → 32 ≤ s.events.length → s.dropCount < 255 →
        s.record o = { s with dropCount := s.dropCount + 1 })
    ∧ (look s.enables o.kindCode = true → 32 ≤ s.events.length → s.dropCount = 255 →
        s.record o = s)
    ∧ (∀ os, s.recordAll (o :: os) = (s.record o).recordAll os) ∧ s.recordAll [] = s

/-- POP_EVENT moves the oldest record to the holder and answers the length left, or answers EMPTY; ALERT
is asserted exactly while the queue holds a record (R150, R151, R165). -/
def Obligations.PopMovesTheOldestRecord : Prop :=
  ∀ s : State, s.deviceReset = false →
    (s.events = [] → exec .popEvent s = .next (s.answers .empty 0))
    ∧ (∀ r rest, s.events = r :: rest →
        exec .popEvent s = .next
          ({ s with events := rest, holder := some r }.answers .done
            (BitVec.ofNat 32 rest.length)))
    ∧ (s.alert = true ↔ s.events ≠ [])

/-! ### The management port -/

/-- The objects and fields that the codes of Tables 55 to 61 and 63 name, and the checks of R160: a
command on a code that names no object answers BAD_OBJECT, on one that names no field of it BAD_FIELD,
and a READ of a field answers DONE with its value, each changing nothing. The settings are the
writable fields, with the ranges of Tables 57 to 61, and the counters and the drop count the clearable
ones (R160, R161). -/
def Obligations.FieldsAreCheckedByTheirTables : Prop :=
  (∀ (s : State) (object index field : Byte) (value : Word32), s.deviceReset = false →
    let on : List Instr := [.read object index field, .write object index field value,
      .readAndClear object index field]
    (objectOf object index = none → ∀ c ∈ on, exec c s = .next (s.answers .badObject 0))
    ∧ (∀ o, objectOf object index = some o → fieldIn o field = none →
        ∀ c ∈ on, exec c s = .next (s.answers .badField 0))
    ∧ (∀ o f, objectOf object index = some o → fieldIn o field = some f →
        exec (.read object index field) s = .next (s.answers .done (s.fieldValue f))))
  ∧ (∀ object index : Byte,
      (objectOf object index = none ↔
        ([1, 1, 4, 8, 8, 8, 8, 4, 1, 1][object.toNat]?).getD 0 ≤ index.toNat)
      ∧ ∀ p : PortId, ∀ w : WindowId,
          objectOf 0x00 0 = some .identity ∧ objectOf 0x01 0 = some .global
          ∧ objectOf 0x02 (BitVec.ofNat 8 p.val) = some (.port p)
          ∧ objectOf 0x03 (BitVec.ofNat 8 w.val) = some (.staged w)
          ∧ objectOf 0x04 (BitVec.ofNat 8 w.val) = some (.active w)
          ∧ objectOf 0x05 (BitVec.ofNat 8 w.val) = some (.usage w)
          ∧ objectOf 0x06 (BitVec.ofNat 8 w.val) = some (.rule w)
          ∧ objectOf 0x07 (BitVec.ofNat 8 p.val) = some (.counters p)
          ∧ objectOf 0x08 0 = some .eventStatus ∧ objectOf 0x09 0 = some .eventHold)
  ∧ (∀ (p : PortId) (w : WindowId) (code : Byte),
      let window : List (Byte × WindowField) := [(0x08, .owner), (0x09, .start), (0x0A, .length),
        (0x0B, .guard), (0x0C, .budget), (0x0D, .lend)]
      let schedule : List (Byte × ScheduleField) :=
        [(0x00, .period), (0x01, .prescaler), (0x02, .count)]
      let timer : List (Byte × TimerField) := [(0x10, .commitPending), (0x11, .frameNumber),
        (0x12, .frameTick), (0x13, .tickCount)]
      fieldIn .identity code
        = ((List.finRange 12).map fun k => (BitVec.ofNat 8 k.val, Field.identity k)).lookup code
      ∧ fieldIn .global code
        = ([((0x00 : Byte), Field.global .threshold), (0x01, .global .deadline),
            (0x02, .global .defaultAction), (0x03, .global .linkState),
            (0x04, .global .orphanedCount)]
          ++ (List.finRange 13).map (fun k =>
            (0x10 + BitVec.ofNat 8 k.val, Field.global (.enable k)))).lookup code
      ∧ fieldIn (.port p) code
        = ([((0x00 : Byte), PortField.weight), (0x01, .startLevel), (0x02, .ageLimit),
            (0x03, .inFlightLimit), (0x04, .postedWrites), (0x08, .portState), (0x09, .queueDepth),
            (0x0A, .replyLength), (0x0B, .inFlightCount), (0x0C, .nextSequence),
            (0x0D, .headSequence)].lookup code).map (.port p)
      ∧ fieldIn (.staged w) code
        = (window.map (fun x => (x.1, Field.stagedWindow w x.2))
            ++ (if w = 0 then schedule.map (fun x => (x.1, Field.stagedSchedule x.2))
              else [])).lookup code
      ∧ fieldIn (.active w) code
        = (window.map (fun x => (x.1, Field.activeWindow w x.2))
            ++ (if w = 0 then
                schedule.map (fun x => (x.1, Field.activeSchedule x.2))
                  ++ timer.map (fun x => (x.1, Field.timer x.2))
              else [])).lookup code
      ∧ fieldIn (.usage w) code
        = ([((0x00 : Byte), UsageField.charged), (0x01, .lent), (0x02, .spent)].lookup code).map
            (.usage w)
      ∧ fieldIn (.rule w) code
        = ([((0x00 : Byte), RuleField.enabled), (0x01, .firstHigh), (0x02, .firstLow),
            (0x03, .lastHigh), (0x04, .lastLow), (0x05, .portMask), (0x06, .kinds),
            (0x07, .action)].lookup code).map (.rule w)
      ∧ fieldIn (.counters p) code
        = ([((0x00 : Byte), CounterField.windowBeats), (0x01, .bidBeats), (0x02, .refused),
            (0x03, .timeouts)].lookup code).map (.counter p)
      ∧ fieldIn .eventStatus code
        = [((0x00 : Byte), Field.status .queueLength), (0x01, .status .dropCount)].lookup code
      ∧ fieldIn .eventHold code
        = ([((0x00 : Byte), HeldField.holding), (0x01, .kind), (0x02, .presence),
            (0x03, .frameNumber), (0x04, .frameTick), (0x05, .port), (0x06, .slot), (0x07, .window),
            (0x08, .blockHigh), (0x09, .blockLow), (0x0A, .sequence), (0x0B, .status),
            (0x0C, .rule)].lookup code).map .held)
  ∧ ∀ f : Field,
      let range : Option (Nat × Nat) := match f with
        | .global .threshold => some (0, 4095)
        | .global .deadline => some (0, 65535)
        | .global .defaultAction => some (0, 1)
        | .global (.enable _) => some (0, 1)
        | .port _ .weight => some (0, 15)
        | .port _ .startLevel => some (1, 16)
        | .port _ .ageLimit => some (0, 65535)
        | .port _ .inFlightLimit => some (1, 16)
        | .port _ .postedWrites => some (0, 1)
        | .stagedSchedule .period => some (0, 65535)
        | .stagedSchedule .prescaler => some (0, 255)
        | .stagedSchedule .count => some (0, 255)
        | .stagedWindow _ .owner => some (0, 3)
        | .stagedWindow _ .start => some (0, 65535)
        | .stagedWindow _ .length => some (1, 65535)
        | .stagedWindow _ .guard => some (0, 255)
        | .stagedWindow _ .budget => some (0, 4095)
        | .stagedWindow _ .lend => some (0, 1)
        | .rule _ .enabled => some (0, 1)
        | .rule _ .firstHigh => some (0, 3)
        | .rule _ .firstLow => some (0, 4294967295)
        | .rule _ .lastHigh => some (0, 3)
        | .rule _ .lastLow => some (0, 4294967295)
        | .rule _ .portMask => some (0, 15)
        | .rule _ .kinds => some (0, 2)
        | .rule _ .action => some (0, 3)
        | _ => none
      (f.writable = range.isSome)
      ∧ (∀ v : Word32, f.accepts v.toNat = true ↔
          ∃ x, range = some x ∧ x.1 ≤ v.toNat ∧ v.toNat ≤ x.2
            ∧ ∀ p, f = .port p .startLevel → v ∈ ([1, 4, 8, 16] : List Word32))
      ∧ (f.clearable = true ↔ (∃ p g, f = .counter p g) ∨ f = .status .dropCount)
      ∧ (f.isStaged = true ↔ (∃ g, f = .stagedSchedule g) ∨ ∃ w g, f = .stagedWindow w g)

/-- What a READ answers at every object, index and field code of Tables 55 to 61, in the codings of
Tables 57 to 61: the identity, the settings, the counts, the states, the head sequence, the schedule
copies, the frame timer, the usage records, the rules, the counters and the event status. A READ
changes nothing but the frame (R105, R120, R160, R161, R166). -/
def Obligations.ReadAnswersByTheTables : Prop :=
  ∀ s : State, s.deviceReset = false →
    let reads (object index : Byte) (rows : List (Byte × Nat)) : Prop :=
      (∀ x ∈ rows,
        exec (.read object index x.1) s = .next (s.answers .done (BitVec.ofNat 32 x.2)))
      ∧ ∀ code ∉ rows.map Prod.fst, exec (.read object index code) s = .next (s.answers .badField 0)
    let yes (b : Bool) : Nat := if b then 1 else 0
    let schedule (sch : Schedule) : List (Byte × Nat) :=
      [(0x00, sch.period.toNat), (0x01, sch.prescaler.toNat), (0x02, sch.count.toNat)]
    let window (x : Window) : List (Byte × Nat) :=
      [(0x08, x.owner.val), (0x09, x.start.toNat), (0x0A, x.length.toNat), (0x0B, x.guard.toNat),
        (0x0C, x.budget.toNat), (0x0D, yes x.lend)]
    reads 0x00 0 [(0x00, 0x12), (0x01, 0x0440), (0x02, 1), (0x03, 4), (0x04, 32), (0x05, 256),
      (0x06, 256), (0x07, 16), (0x08, 32), (0x09, 32), (0x0A, 8), (0x0B, 8)]
    ∧ reads 0x01 0
        ([((0x00 : Byte), s.threshold.toNat), (0x01, s.deadline.toNat),
          (0x02, match s.defaultAction with | .pass => 0 | .refuse => 1),
          (0x03, match s.link with | .up => 0 | .down => 1 | .restarting => 2),
          (0x04, (List.finRange 32).countP fun i => match s.slot i with
            | .orphaned _ => true
            | _ => false)]
          ++ (List.finRange 13).map (fun k =>
            ((0x10 + BitVec.ofNat 8 k.val : Byte), yes (look s.enables k))))
    ∧ (∀ p : PortId,
        reads 0x02 (BitVec.ofNat 8 p.val)
          [(0x00, (s.port p).settings.weight.toNat),
            (0x01, match (s.port p).settings.startLevel with
              | .one => 1 | .four => 4 | .eight => 8 | .sixteen => 16),
            (0x02, (s.port p).settings.ageLimit.toNat),
            (0x03, (s.port p).settings.inFlightLimit),
            (0x04, yes (s.port p).settings.posted),
            (0x08, match (s.port p).mode with
              | .active => 0 | .draining => 1 | .halted => 2 | .inReset _ _ => 3),
            (0x09, (s.port p).queue.length),
            (0x0A, (s.port p).replies.length),
            (0x0B, (List.finRange 32).countP fun i => match s.slot i with
              | .sending c _ _ _ => decide (c.port = p)
              | .issued c _ => decide (c.port = p)
              | .receiving c _ _ => decide (c.port = p)
              | _ => false),
            (0x0C, (s.port p).nextSequence.toNat),
            (0x0D, match (s.port p).replies with
              | [] => (s.port p).nextSequence.toNat
              | e :: _ => e.sequence.toNat)]
        ∧ reads 0x07 (BitVec.ofNat 8 p.val)
          [(0x00, (s.port p).counters.windowBeats.toNat),
            (0x01, (s.port p).counters.bidBeats.toNat),
            (0x02, (s.port p).counters.refused.toNat),
            (0x03, (s.port p).counters.timeouts.toNat)])
    ∧ (∀ w : WindowId,
        reads 0x03 (BitVec.ofNat 8 w.val)
          (window (s.staged.window w) ++ if w = 0 then schedule s.staged else [])
        ∧ reads 0x04 (BitVec.ofNat 8 w.val)
          (window (s.active.window w) ++ if w = 0 then
            schedule s.active ++ [(0x10, yes s.commitPending), (0x11, s.frameNumber.toNat),
              (0x12, s.frameTick), (0x13, s.tickCount.toNat)] else [])
        ∧ reads 0x05 (BitVec.ofNat 8 w.val)
          [(0x00, (look s.usage w).charged), (0x01, (look s.usage w).lent),
            (0x02, yes (look s.usage w).spent)]
        ∧ reads 0x06 (BitVec.ofNat 8 w.val)
          [(0x00, yes (look s.rules w).enabled),
            (0x01, (look s.rules w).firstBlock.toNat / 2 ^ 32),
            (0x02, (look s.rules w).firstBlock.toNat % 2 ^ 32),
            (0x03, (look s.rules w).lastBlock.toNat / 2 ^ 32),
            (0x04, (look s.rules w).lastBlock.toNat % 2 ^ 32),
            (0x05, (look s.rules w).portMask.toNat),
            (0x06, match (look s.rules w).kinds with | .read => 0 | .write => 1 | .both => 2),
            (0x07, match (look s.rules w).action with
              | .pass => 0 | .passReport => 1 | .refuse => 2 | .refuseReport => 3)])
    ∧ reads 0x08 0 [(0x00, s.events.length), (0x01, s.dropCount)]
    ∧ ∀ object index field : Byte,
        ([1, 1, 4, 8, 8, 8, 8, 4, 1, 1][object.toNat]?).getD 0 ≤ index.toNat →
        exec (.read object index field) s = .next (s.answers .badObject 0)

/-- What a READ answers of the popped record holder: every field of EVENT_HOLD reads 0 while it is
empty; else holding reads 1, and the kind, the frame number and tick, the presence bits and the
optional fields are those of the held record, a field it lacks reading 0 (R146, R152, Tables 40, 62
and 63). -/
def Obligations.HeldRecordIsReadByField : Prop :=
  ∀ s : State, s.deviceReset = false →
    let reads (code : Byte) (number : Nat) : Prop :=
      exec (.read 0x09 0 code) s = .next (s.answers .done (BitVec.ofNat 32 number))
    let posted (slot : Option SlotId) : Nat := if slot.isSome then 0x3B else 0x39
    let cause : LossCause → Nat
      | .flush => 0 | .portReset => 1 | .timeout => 2 | .fault => 3 | .linkDown => 4
      | .deviceReset => 5
    let status : MemStatus → Nat
      | .good => 0 | .fault => 1
    -- kind, presence, port, slot, window, block, sequence, status or cause, rule index
    let shown : Occasion → Nat × Nat × Nat × Nat × Nat × Nat × Nat × Nat × Nat
      | .ruleHit p b q kind refused k => (0, 0x79, p, 0, 0, b.toNat, q.toNat,
          (if kind = .read then 0 else 1) + (if refused then 2 else 0), k)
      | .malformedRequest p b q => (1, 0x19, p, 0, 0, b.toNat, q.toNat, 0, 0)
      | .budgetSpent p w => (2, 0x05, p, 0, w, 0, 0, 0, 0)
      | .scheduleSwitched => (3, 0, 0, 0, 0, 0, 0, 0, 0)
      | .timeout p i b q x => (4, 0x3B, p, i, 0, b.toNat, q.toNat,
          (match x with | .issued => 0 | .receiving => 1), 0)
      | .lateCompletion p i b q x => (5, 0x3B, p, i, 0, b.toNat, q.toNat, status x, 0)
      | .strayHeader p i x => (6, if p.isSome then 0x23 else 0x22, (p.map Fin.val).getD 0, i, 0, 0, 0,
          status x, 0)
      | .strayBeats => (6, 0, 0, 0, 0, 0, 0, 0, 0)
      | .completionMismatch p i b q => (7, 0x1B, p, i, 0, b.toNat, q.toNat, 0, 0)
      | .memoryFault p i b q => (8, 0x1B, p, i, 0, b.toNat, q.toNat, 0, 0)
      | .postedWriteFailed p i b q x => (9, posted i, p, (i.map Fin.val).getD 0, 0, b.toNat, q.toNat,
          cause x, 0)
      | .portHalted p x => (10, 0x21, p, 0, 0, 0, 0,
          (match x with | .drained => 0 | .resetRelease => 1), 0)
      | .linkDown x => (11, 0x20, 0, 0, 0, 0, 0, (match x with | .readyFell => 0 | .restart => 1), 0)
      | .linkUp => (12, 0, 0, 0, 0, 0, 0, 0, 0)
    (s.holder = none → ∀ code : Byte, code.toNat < 13 → reads code 0)
    ∧ (∀ r, s.holder = some r →
        let (kind, presence, port, slot, window, block, sequence, code, rule) := shown r.occasion
        reads 0x00 1 ∧ reads 0x01 kind ∧ reads 0x02 presence ∧ reads 0x03 r.frameNumber.toNat
        ∧ reads 0x04 r.frameTick ∧ reads 0x05 port ∧ reads 0x06 slot ∧ reads 0x07 window
        ∧ reads 0x08 (block / 2 ^ 32) ∧ reads 0x09 (block % 2 ^ 32) ∧ reads 0x0A sequence
        ∧ reads 0x0B code ∧ reads 0x0C rule)
    ∧ ∀ code : Byte, 13 ≤ code.toNat →
        exec (.read 0x09 0 code) s = .next (s.answers .badField 0)

/-- WRITE of a field that exists: refused with READ_ONLY, STAGED_LOCKED or BAD_VALUE, in that order,
with the field's value; or stored, so that the field then holds the value and every other writable
field holds what it held, with a decision taken if the field is one it reads (R43, R160, R161). -/
def Obligations.WriteStoresOneField : Prop :=
  ∀ (s : State) (object index field : Byte) (value : Word32) (o : ObjectRef) (f : Field),
    s.deviceReset = false → objectOf object index = some o → fieldIn o field = some f →
    (f.writable = false →
      exec (.write object index field value) s = .next (s.answers .readOnly (s.fieldValue f)))
    ∧ (f.writable = true → f.isStaged = true → s.commitPending = true →
        exec (.write object index field value) s
          = .next (s.answers .stagedLocked (s.fieldValue f)))
    ∧ (f.writable = true → (f.isStaged = false ∨ s.commitPending = false) →
        f.accepts value.toNat = false →
        exec (.write object index field value) s
          = .next (s.answers .badValue (s.fieldValue f)))
    ∧ (f.writable = true → (f.isStaged = false ∨ s.commitPending = false) →
        f.accepts value.toNat = true →
        ∃ t : State,
          exec (.write object index field value) s = .next
            ((if f.isArbiterSetting then t.takeDecision else t).answers .done value)
          ∧ t.fieldValue f = value
          ∧ (∀ g, g.writable = true → g ≠ f → t.fieldValue g = s.fieldValue g)
          ∧ t = { s with
                  staged := t.staged, ports := t.ports, threshold := t.threshold
                  rules := t.rules, defaultAction := t.defaultAction, deadline := t.deadline
                  enables := t.enables }
          ∧ ∀ p, t.port p = { s.port p with settings := (t.port p).settings })

/-- READ_AND_CLEAR of a clearable field answers its value and leaves 0 in it, with the other fields as
they were, and of any other field answers READ_ONLY. CLEAR_COUNTERS sets the four counters of its
port to 0 (R156, R160, R162, R164). -/
def Obligations.CountersAreReadAndCleared : Prop :=
  ∀ (s : State), s.deviceReset = false →
    (∀ object index field o f, objectOf object index = some o → fieldIn o field = some f →
      (f.clearable = false →
        exec (.readAndClear object index field) s
          = .next (s.answers .readOnly (s.fieldValue f)))
      ∧ (f.clearable = true → ∃ t : State,
          exec (.readAndClear object index field) s = .next (t.answers .done (s.fieldValue f))
          ∧ t.fieldValue f = 0
          ∧ (∀ g, g ≠ f → t.fieldValue g = s.fieldValue g)
          ∧ t = { s with ports := t.ports, dropCount := t.dropCount }
          ∧ ∀ p, t.port p = { s.port p with counters := (t.port p).counters }))
    ∧ (∀ (p : PortId) (index : Byte), index.toNat = p.val →
        exec (.clearCounters index) s = .next
          ({ s with
              ports := put s.ports p
                { s.port p with
                  counters := { windowBeats := 0, bidBeats := 0, refused := 0,
                                timeouts := 0 } } }.answers .done 0))

/-- The commands that change nothing: NO_OPERATION answers DONE, a command code that names nothing
NOT_ALLOWED, and a port command whose index names no port BAD_OBJECT, each with value 0 (R164,
R165). -/
def Obligations.EmptyCommandsChangeNothing : Prop :=
  ∀ (s : State) (code index : Byte), s.deviceReset = false →
    exec .noOperation s = .next (s.answers .done 0)
    ∧ exec (.unknownCommand code) s = .next (s.answers .notAllowed 0)
    ∧ (4 ≤ index.toNat →
        ∀ c ∈ [Instr.portEnable index, .portDrain index, .portFlush index, .clearCounters index],
          exec c s = .next (s.answers .badObject 0))

/-- The frame state: a fall of chip select begins a frame, a rise ends it, and an edge of the SPI clock
adds a bit in COMMAND, counts one in ANSWER up to the 104th, and does nothing in UNSELECTED and
OVERRUN (R157, R158). -/
def Obligations.FrameFollowsItsBits : Prop :=
  ∀ (s : State) (bit : Bool), s.deviceReset = false →
    exec .chipSelectFall s = .next { s with frame := .command [] }
    ∧ exec .chipSelectRise s = .next { s with frame := .unselected }
    ∧ (∀ bits, s.frame = .command bits → bits.length < 63 →
        exec (.spiClockRisingEdge bit) s = .next { s with frame := .command (bits ++ [bit]) })
    ∧ (∀ bits, s.frame = .command bits → bits.length = 63 →
        exec (.spiClockRisingEdge bit) s
          = exec (decodeFrame (wordOfBits (bits ++ [bit]))).toInstr s)
    ∧ (∀ n r, s.frame = .answer n r → n < 103 →
        exec (.spiClockRisingEdge bit) s = .next { s with frame := .answer (n + 1) r })
    ∧ (∀ n r, s.frame = .answer n r → 103 ≤ n →
        exec (.spiClockRisingEdge bit) s = .next { s with frame := .overrun })
    ∧ ((s.frame = .unselected ∨ s.frame = .overrun) →
        exec (.spiClockRisingEdge bit) s = .next s)

/-- The answer on the data out line: not driven in UNSELECTED, 0 in COMMAND and OVERRUN, and in ANSWER
the 40 bits of bytes 8 to 12, the result code of Table 54 and then the value, each byte from its most
significant bit and the most significant byte of the value first (R157, R159, Tables 44, 52 and 54).
The line is that which the falling edge after the present rising edge leaves (the model's choice,
log 7). -/
def Obligations.AnswerLineShowsTheResult : Prop :=
  (∀ s : State,
    (s.frame = .unselected → s.dataOut = none)
    ∧ (∀ bits, s.frame = .command bits → s.dataOut = some false)
    ∧ (s.frame = .overrun → s.dataOut = some false)
    ∧ ∀ n r, s.frame = .answer n r → 64 ≤ n → n < 104 →
        let bytes : List Byte := [r.code.code, r.value.extractLsb' 24 8, r.value.extractLsb' 16 8,
          r.value.extractLsb' 8 8, r.value.extractLsb' 0 8]
        ∃ byte, bytes[(n - 64) / 8]? = some byte
          ∧ s.dataOut = some (byte.getLsbD (7 - (n - 64) % 8)))
  ∧ ∀ x ∈ [(ResultCode.done, (0x00 : Byte)), (.empty, 0x01), (.badObject, 0x02), (.badField, 0x03),
        (.badValue, 0x04), (.readOnly, 0x05), (.stagedLocked, 0x06), (.notAllowed, 0x07),
        (.badPeriod, 0x10), (.badPrescaler, 0x11), (.badCount, 0x12), (.windowPastPeriod, 0x13),
        (.windowOrder, 0x14), (.guardOverlap, 0x15)],
      x.1.code = x.2

/-- A frame decodes to the command it was made of: the codes of Table 53 and the operand bytes of
Table 52, at every value of the operands (R157, R159). -/
def Obligations.FrameCarriesItsCommand : Prop :=
  ∀ m : MgmtCommand, m.wellFormed = true → decodeFrame (encodeFrame m) = m

/-- A frame clocked in bit by bit after a fall of chip select has, at its 64th rising edge, exactly the
effect of the command of the table that its bits spell (R157, R159; log 6). -/
def Obligations.ClockedFrameIsItsCommand : Prop :=
  ∀ (s : State) (w : FrameWord) (behind : List Instr), s.deviceReset = false →
    s.pending = .chipSelectFall :: (bitsOfWord w).map .spiClockRisingEdge ++ behind →
    ∃ t, exec (decodeFrame w).toInstr { s with pending := behind } = .next t
      ∧ (List.range 65).foldl
          (fun (x : Option State) _ =>
            match x with
            | some u =>
              match step u with
              | .next v => some v
              | .fault _ => none
              | .refused _ => none
            | none => none) (some s)
        = some t

end Statements
end

