-- ==== Sys2Proof/Laws/State.lean ====
section
/-! SUPPORT. What each update of State leaves in each field: one lemma per field per update, true by
rfl; and reading a place of a row after a place was put or the row tabulated. -/

namespace Sys2Proof

variable {α : Type} {n : Nat}

@[simp] theorem look_tabulate (f : Fin n → α) (i : Fin n) : look (tabulate f) i = f i := by
  simp [look, tabulate]

theorem look_put (v : Vector α n) (i j : Fin n) (x : α) :
    look (put v i x) j = if j = i then x else look v j := by
  simp only [look, put, Vector.getElem_set, Fin.ext_iff, eq_comm]

@[simp] theorem look_put_same (v : Vector α n) (i : Fin n) (x : α) : look (put v i x) i = x := by
  simp [look_put]

theorem look_put_of_ne (v : Vector α n) {i j : Fin n} (x : α) (h : j ≠ i) :
    look (put v i x) j = look v j := by
  simp [look_put, h]

/-- Two rows that agree at every place are equal. -/
theorem row_ext {v w : Vector α n} (h : ∀ i, look v i = look w i) : v = w :=
  Vector.ext fun i hi => h ⟨i, hi⟩

@[simp] theorem tabulate_look (v : Vector α n) : tabulate (look v) = v :=
  row_ext fun i => look_tabulate _ i

@[simp] theorem put_look (v : Vector α n) (i : Fin n) : put v i (look v i) = v :=
  row_ext fun j => by rw [look_put]; split <;> simp_all

end Sys2Proof

namespace Sys2Proof.Machine

/-! ### withPort -/

@[simp] theorem State.withPort_pending (s : State) (p : PortId) (f : Port → Port) :
    (s.withPort p f).pending = s.pending := rfl

@[simp] theorem State.withPort_draws (s : State) (p : PortId) (f : Port → Port) :
    (s.withPort p f).draws = s.draws := rfl

@[simp] theorem State.withPort_deviceReset (s : State) (p : PortId) (f : Port → Port) :
    (s.withPort p f).deviceReset = s.deviceReset := rfl

@[simp] theorem State.withPort_linkReady (s : State) (p : PortId) (f : Port → Port) :
    (s.withPort p f).linkReady = s.linkReady := rfl

@[simp] theorem State.withPort_clocks (s : State) (p : PortId) (f : Port → Port) :
    (s.withPort p f).clocks = s.clocks := rfl

@[simp] theorem State.withPort_tickCount (s : State) (p : PortId) (f : Port → Port) :
    (s.withPort p f).tickCount = s.tickCount := rfl

@[simp] theorem State.withPort_frameTick (s : State) (p : PortId) (f : Port → Port) :
    (s.withPort p f).frameTick = s.frameTick := rfl

@[simp] theorem State.withPort_frameNumber (s : State) (p : PortId) (f : Port → Port) :
    (s.withPort p f).frameNumber = s.frameNumber := rfl

@[simp] theorem State.withPort_active (s : State) (p : PortId) (f : Port → Port) :
    (s.withPort p f).active = s.active := rfl

@[simp] theorem State.withPort_staged (s : State) (p : PortId) (f : Port → Port) :
    (s.withPort p f).staged = s.staged := rfl

@[simp] theorem State.withPort_commitPending (s : State) (p : PortId) (f : Port → Port) :
    (s.withPort p f).commitPending = s.commitPending := rfl

@[simp] theorem State.withPort_occurrences (s : State) (p : PortId) (f : Port → Port) :
    (s.withPort p f).occurrences = s.occurrences := rfl

@[simp] theorem State.withPort_usage (s : State) (p : PortId) (f : Port → Port) :
    (s.withPort p f).usage = s.usage := rfl

@[simp] theorem State.withPort_threshold (s : State) (p : PortId) (f : Port → Port) :
    (s.withPort p f).threshold = s.threshold := rfl

@[simp] theorem State.withPort_slots (s : State) (p : PortId) (f : Port → Port) :
    (s.withPort p f).slots = s.slots := rfl

@[simp] theorem State.withPort_completion (s : State) (p : PortId) (f : Port → Port) :
    (s.withPort p f).completion = s.completion := rfl

@[simp] theorem State.withPort_rules (s : State) (p : PortId) (f : Port → Port) :
    (s.withPort p f).rules = s.rules := rfl

@[simp] theorem State.withPort_defaultAction (s : State) (p : PortId) (f : Port → Port) :
    (s.withPort p f).defaultAction = s.defaultAction := rfl

@[simp] theorem State.withPort_deadline (s : State) (p : PortId) (f : Port → Port) :
    (s.withPort p f).deadline = s.deadline := rfl

@[simp] theorem State.withPort_link (s : State) (p : PortId) (f : Port → Port) :
    (s.withPort p f).link = s.link := rfl

@[simp] theorem State.withPort_events (s : State) (p : PortId) (f : Port → Port) :
    (s.withPort p f).events = s.events := rfl

@[simp] theorem State.withPort_dropCount (s : State) (p : PortId) (f : Port → Port) :
    (s.withPort p f).dropCount = s.dropCount := rfl

@[simp] theorem State.withPort_holder (s : State) (p : PortId) (f : Port → Port) :
    (s.withPort p f).holder = s.holder := rfl

@[simp] theorem State.withPort_enables (s : State) (p : PortId) (f : Port → Port) :
    (s.withPort p f).enables = s.enables := rfl

@[simp] theorem State.withPort_frame (s : State) (p : PortId) (f : Port → Port) :
    (s.withPort p f).frame = s.frame := rfl

/-! ### withSlot -/

@[simp] theorem State.withSlot_pending (s : State) (i : SlotId) (x : Slot) :
    (s.withSlot i x).pending = s.pending := rfl

@[simp] theorem State.withSlot_draws (s : State) (i : SlotId) (x : Slot) :
    (s.withSlot i x).draws = s.draws := rfl

@[simp] theorem State.withSlot_deviceReset (s : State) (i : SlotId) (x : Slot) :
    (s.withSlot i x).deviceReset = s.deviceReset := rfl

@[simp] theorem State.withSlot_linkReady (s : State) (i : SlotId) (x : Slot) :
    (s.withSlot i x).linkReady = s.linkReady := rfl

@[simp] theorem State.withSlot_clocks (s : State) (i : SlotId) (x : Slot) :
    (s.withSlot i x).clocks = s.clocks := rfl

@[simp] theorem State.withSlot_tickCount (s : State) (i : SlotId) (x : Slot) :
    (s.withSlot i x).tickCount = s.tickCount := rfl

@[simp] theorem State.withSlot_frameTick (s : State) (i : SlotId) (x : Slot) :
    (s.withSlot i x).frameTick = s.frameTick := rfl

@[simp] theorem State.withSlot_frameNumber (s : State) (i : SlotId) (x : Slot) :
    (s.withSlot i x).frameNumber = s.frameNumber := rfl

@[simp] theorem State.withSlot_active (s : State) (i : SlotId) (x : Slot) :
    (s.withSlot i x).active = s.active := rfl

@[simp] theorem State.withSlot_staged (s : State) (i : SlotId) (x : Slot) :
    (s.withSlot i x).staged = s.staged := rfl

@[simp] theorem State.withSlot_commitPending (s : State) (i : SlotId) (x : Slot) :
    (s.withSlot i x).commitPending = s.commitPending := rfl

@[simp] theorem State.withSlot_occurrences (s : State) (i : SlotId) (x : Slot) :
    (s.withSlot i x).occurrences = s.occurrences := rfl

@[simp] theorem State.withSlot_usage (s : State) (i : SlotId) (x : Slot) :
    (s.withSlot i x).usage = s.usage := rfl

@[simp] theorem State.withSlot_ports (s : State) (i : SlotId) (x : Slot) :
    (s.withSlot i x).ports = s.ports := rfl

@[simp] theorem State.withSlot_threshold (s : State) (i : SlotId) (x : Slot) :
    (s.withSlot i x).threshold = s.threshold := rfl

@[simp] theorem State.withSlot_completion (s : State) (i : SlotId) (x : Slot) :
    (s.withSlot i x).completion = s.completion := rfl

@[simp] theorem State.withSlot_rules (s : State) (i : SlotId) (x : Slot) :
    (s.withSlot i x).rules = s.rules := rfl

@[simp] theorem State.withSlot_defaultAction (s : State) (i : SlotId) (x : Slot) :
    (s.withSlot i x).defaultAction = s.defaultAction := rfl

@[simp] theorem State.withSlot_deadline (s : State) (i : SlotId) (x : Slot) :
    (s.withSlot i x).deadline = s.deadline := rfl

@[simp] theorem State.withSlot_link (s : State) (i : SlotId) (x : Slot) :
    (s.withSlot i x).link = s.link := rfl

@[simp] theorem State.withSlot_events (s : State) (i : SlotId) (x : Slot) :
    (s.withSlot i x).events = s.events := rfl

@[simp] theorem State.withSlot_dropCount (s : State) (i : SlotId) (x : Slot) :
    (s.withSlot i x).dropCount = s.dropCount := rfl

@[simp] theorem State.withSlot_holder (s : State) (i : SlotId) (x : Slot) :
    (s.withSlot i x).holder = s.holder := rfl

@[simp] theorem State.withSlot_enables (s : State) (i : SlotId) (x : Slot) :
    (s.withSlot i x).enables = s.enables := rfl

@[simp] theorem State.withSlot_frame (s : State) (i : SlotId) (x : Slot) :
    (s.withSlot i x).frame = s.frame := rfl

/-! ### withOccurrence -/

@[simp] theorem State.withOccurrence_pending (s : State) (w : WindowId) (f : Occurrence → Occurrence) :
    (s.withOccurrence w f).pending = s.pending := rfl

@[simp] theorem State.withOccurrence_draws (s : State) (w : WindowId) (f : Occurrence → Occurrence) :
    (s.withOccurrence w f).draws = s.draws := rfl

@[simp] theorem State.withOccurrence_deviceReset (s : State) (w : WindowId) (f : Occurrence → Occurrence) :
    (s.withOccurrence w f).deviceReset = s.deviceReset := rfl

@[simp] theorem State.withOccurrence_linkReady (s : State) (w : WindowId) (f : Occurrence → Occurrence) :
    (s.withOccurrence w f).linkReady = s.linkReady := rfl

@[simp] theorem State.withOccurrence_clocks (s : State) (w : WindowId) (f : Occurrence → Occurrence) :
    (s.withOccurrence w f).clocks = s.clocks := rfl

@[simp] theorem State.withOccurrence_tickCount (s : State) (w : WindowId) (f : Occurrence → Occurrence) :
    (s.withOccurrence w f).tickCount = s.tickCount := rfl

@[simp] theorem State.withOccurrence_frameTick (s : State) (w : WindowId) (f : Occurrence → Occurrence) :
    (s.withOccurrence w f).frameTick = s.frameTick := rfl

@[simp] theorem State.withOccurrence_frameNumber (s : State) (w : WindowId) (f : Occurrence → Occurrence) :
    (s.withOccurrence w f).frameNumber = s.frameNumber := rfl

@[simp] theorem State.withOccurrence_active (s : State) (w : WindowId) (f : Occurrence → Occurrence) :
    (s.withOccurrence w f).active = s.active := rfl

@[simp] theorem State.withOccurrence_staged (s : State) (w : WindowId) (f : Occurrence → Occurrence) :
    (s.withOccurrence w f).staged = s.staged := rfl

@[simp] theorem State.withOccurrence_commitPending (s : State) (w : WindowId) (f : Occurrence → Occurrence) :
    (s.withOccurrence w f).commitPending = s.commitPending := rfl

@[simp] theorem State.withOccurrence_usage (s : State) (w : WindowId) (f : Occurrence → Occurrence) :
    (s.withOccurrence w f).usage = s.usage := rfl

@[simp] theorem State.withOccurrence_ports (s : State) (w : WindowId) (f : Occurrence → Occurrence) :
    (s.withOccurrence w f).ports = s.ports := rfl

@[simp] theorem State.withOccurrence_threshold (s : State) (w : WindowId) (f : Occurrence → Occurrence) :
    (s.withOccurrence w f).threshold = s.threshold := rfl

@[simp] theorem State.withOccurrence_slots (s : State) (w : WindowId) (f : Occurrence → Occurrence) :
    (s.withOccurrence w f).slots = s.slots := rfl

@[simp] theorem State.withOccurrence_completion (s : State) (w : WindowId) (f : Occurrence → Occurrence) :
    (s.withOccurrence w f).completion = s.completion := rfl

@[simp] theorem State.withOccurrence_rules (s : State) (w : WindowId) (f : Occurrence → Occurrence) :
    (s.withOccurrence w f).rules = s.rules := rfl

@[simp] theorem State.withOccurrence_defaultAction (s : State) (w : WindowId) (f : Occurrence → Occurrence) :
    (s.withOccurrence w f).defaultAction = s.defaultAction := rfl

@[simp] theorem State.withOccurrence_deadline (s : State) (w : WindowId) (f : Occurrence → Occurrence) :
    (s.withOccurrence w f).deadline = s.deadline := rfl

@[simp] theorem State.withOccurrence_link (s : State) (w : WindowId) (f : Occurrence → Occurrence) :
    (s.withOccurrence w f).link = s.link := rfl

@[simp] theorem State.withOccurrence_events (s : State) (w : WindowId) (f : Occurrence → Occurrence) :
    (s.withOccurrence w f).events = s.events := rfl

@[simp] theorem State.withOccurrence_dropCount (s : State) (w : WindowId) (f : Occurrence → Occurrence) :
    (s.withOccurrence w f).dropCount = s.dropCount := rfl

@[simp] theorem State.withOccurrence_holder (s : State) (w : WindowId) (f : Occurrence → Occurrence) :
    (s.withOccurrence w f).holder = s.holder := rfl

@[simp] theorem State.withOccurrence_enables (s : State) (w : WindowId) (f : Occurrence → Occurrence) :
    (s.withOccurrence w f).enables = s.enables := rfl

@[simp] theorem State.withOccurrence_frame (s : State) (w : WindowId) (f : Occurrence → Occurrence) :
    (s.withOccurrence w f).frame = s.frame := rfl

/-! ### withChannel -/

@[simp] theorem State.withChannel_pending (s : State) (c : CompletionChannel) :
    (s.withChannel c).pending = s.pending := rfl

@[simp] theorem State.withChannel_draws (s : State) (c : CompletionChannel) :
    (s.withChannel c).draws = s.draws := rfl

@[simp] theorem State.withChannel_deviceReset (s : State) (c : CompletionChannel) :
    (s.withChannel c).deviceReset = s.deviceReset := rfl

@[simp] theorem State.withChannel_linkReady (s : State) (c : CompletionChannel) :
    (s.withChannel c).linkReady = s.linkReady := rfl

@[simp] theorem State.withChannel_clocks (s : State) (c : CompletionChannel) :
    (s.withChannel c).clocks = s.clocks := rfl

@[simp] theorem State.withChannel_tickCount (s : State) (c : CompletionChannel) :
    (s.withChannel c).tickCount = s.tickCount := rfl

@[simp] theorem State.withChannel_frameTick (s : State) (c : CompletionChannel) :
    (s.withChannel c).frameTick = s.frameTick := rfl

@[simp] theorem State.withChannel_frameNumber (s : State) (c : CompletionChannel) :
    (s.withChannel c).frameNumber = s.frameNumber := rfl

@[simp] theorem State.withChannel_active (s : State) (c : CompletionChannel) :
    (s.withChannel c).active = s.active := rfl

@[simp] theorem State.withChannel_staged (s : State) (c : CompletionChannel) :
    (s.withChannel c).staged = s.staged := rfl

@[simp] theorem State.withChannel_commitPending (s : State) (c : CompletionChannel) :
    (s.withChannel c).commitPending = s.commitPending := rfl

@[simp] theorem State.withChannel_occurrences (s : State) (c : CompletionChannel) :
    (s.withChannel c).occurrences = s.occurrences := rfl

@[simp] theorem State.withChannel_usage (s : State) (c : CompletionChannel) :
    (s.withChannel c).usage = s.usage := rfl

@[simp] theorem State.withChannel_ports (s : State) (c : CompletionChannel) :
    (s.withChannel c).ports = s.ports := rfl

@[simp] theorem State.withChannel_threshold (s : State) (c : CompletionChannel) :
    (s.withChannel c).threshold = s.threshold := rfl

@[simp] theorem State.withChannel_slots (s : State) (c : CompletionChannel) :
    (s.withChannel c).slots = s.slots := rfl

@[simp] theorem State.withChannel_rules (s : State) (c : CompletionChannel) :
    (s.withChannel c).rules = s.rules := rfl

@[simp] theorem State.withChannel_defaultAction (s : State) (c : CompletionChannel) :
    (s.withChannel c).defaultAction = s.defaultAction := rfl

@[simp] theorem State.withChannel_deadline (s : State) (c : CompletionChannel) :
    (s.withChannel c).deadline = s.deadline := rfl

@[simp] theorem State.withChannel_link (s : State) (c : CompletionChannel) :
    (s.withChannel c).link = s.link := rfl

@[simp] theorem State.withChannel_events (s : State) (c : CompletionChannel) :
    (s.withChannel c).events = s.events := rfl

@[simp] theorem State.withChannel_dropCount (s : State) (c : CompletionChannel) :
    (s.withChannel c).dropCount = s.dropCount := rfl

@[simp] theorem State.withChannel_holder (s : State) (c : CompletionChannel) :
    (s.withChannel c).holder = s.holder := rfl

@[simp] theorem State.withChannel_enables (s : State) (c : CompletionChannel) :
    (s.withChannel c).enables = s.enables := rfl

@[simp] theorem State.withChannel_frame (s : State) (c : CompletionChannel) :
    (s.withChannel c).frame = s.frame := rfl

/-! ### withPending -/

@[simp] theorem State.withPending_deviceReset (s : State) (cs : List Instr) :
    (s.withPending cs).deviceReset = s.deviceReset := rfl

@[simp] theorem State.withPending_linkReady (s : State) (cs : List Instr) :
    (s.withPending cs).linkReady = s.linkReady := rfl

@[simp] theorem State.withPending_clocks (s : State) (cs : List Instr) :
    (s.withPending cs).clocks = s.clocks := rfl

@[simp] theorem State.withPending_tickCount (s : State) (cs : List Instr) :
    (s.withPending cs).tickCount = s.tickCount := rfl

@[simp] theorem State.withPending_frameTick (s : State) (cs : List Instr) :
    (s.withPending cs).frameTick = s.frameTick := rfl

@[simp] theorem State.withPending_frameNumber (s : State) (cs : List Instr) :
    (s.withPending cs).frameNumber = s.frameNumber := rfl

@[simp] theorem State.withPending_active (s : State) (cs : List Instr) :
    (s.withPending cs).active = s.active := rfl

@[simp] theorem State.withPending_staged (s : State) (cs : List Instr) :
    (s.withPending cs).staged = s.staged := rfl

@[simp] theorem State.withPending_commitPending (s : State) (cs : List Instr) :
    (s.withPending cs).commitPending = s.commitPending := rfl

@[simp] theorem State.withPending_occurrences (s : State) (cs : List Instr) :
    (s.withPending cs).occurrences = s.occurrences := rfl

@[simp] theorem State.withPending_usage (s : State) (cs : List Instr) :
    (s.withPending cs).usage = s.usage := rfl

@[simp] theorem State.withPending_ports (s : State) (cs : List Instr) :
    (s.withPending cs).ports = s.ports := rfl

@[simp] theorem State.withPending_threshold (s : State) (cs : List Instr) :
    (s.withPending cs).threshold = s.threshold := rfl

@[simp] theorem State.withPending_slots (s : State) (cs : List Instr) :
    (s.withPending cs).slots = s.slots := rfl

@[simp] theorem State.withPending_completion (s : State) (cs : List Instr) :
    (s.withPending cs).completion = s.completion := rfl

@[simp] theorem State.withPending_rules (s : State) (cs : List Instr) :
    (s.withPending cs).rules = s.rules := rfl

@[simp] theorem State.withPending_defaultAction (s : State) (cs : List Instr) :
    (s.withPending cs).defaultAction = s.defaultAction := rfl

@[simp] theorem State.withPending_deadline (s : State) (cs : List Instr) :
    (s.withPending cs).deadline = s.deadline := rfl

@[simp] theorem State.withPending_link (s : State) (cs : List Instr) :
    (s.withPending cs).link = s.link := rfl

@[simp] theorem State.withPending_events (s : State) (cs : List Instr) :
    (s.withPending cs).events = s.events := rfl

@[simp] theorem State.withPending_dropCount (s : State) (cs : List Instr) :
    (s.withPending cs).dropCount = s.dropCount := rfl

@[simp] theorem State.withPending_holder (s : State) (cs : List Instr) :
    (s.withPending cs).holder = s.holder := rfl

@[simp] theorem State.withPending_enables (s : State) (cs : List Instr) :
    (s.withPending cs).enables = s.enables := rfl

@[simp] theorem State.withPending_frame (s : State) (cs : List Instr) :
    (s.withPending cs).frame = s.frame := rfl

/-! ### The place that an update changes -/

@[simp] theorem State.withChannel_completion (s : State) (c : CompletionChannel) :
    (s.withChannel c).completion = c := rfl

@[simp] theorem State.withPending_pending (s : State) (cs : List Instr) :
    (s.withPending cs).pending = cs := rfl

@[simp] theorem State.withPending_draws (s : State) (cs : List Instr) :
    (s.withPending cs).draws = s.draws := rfl

@[simp] theorem State.withPort_port_same (s : State) (p : PortId) (f : Port → Port) :
    (s.withPort p f).port p = f (s.port p) := by
  simp [State.withPort, State.port]

theorem State.withPort_port_of_ne (s : State) {p q : PortId} (f : Port → Port) (h : q ≠ p) :
    (s.withPort p f).port q = s.port q := by
  simp [State.withPort, State.port, look_put_of_ne _ _ h]

theorem State.withPort_port (s : State) (p q : PortId) (f : Port → Port) :
    (s.withPort p f).port q = if q = p then f (s.port p) else s.port q := by
  split
  · subst_vars; simp
  · exact State.withPort_port_of_ne s f ‹_›

@[simp] theorem State.withSlot_slot_same (s : State) (i : SlotId) (x : Slot) :
    (s.withSlot i x).slot i = x := by
  simp [State.withSlot, State.slot]

theorem State.withSlot_slot_of_ne (s : State) {i j : SlotId} (x : Slot) (h : j ≠ i) :
    (s.withSlot i x).slot j = s.slot j := by
  simp [State.withSlot, State.slot, look_put_of_ne _ _ h]

theorem State.withSlot_slot (s : State) (i j : SlotId) (x : Slot) :
    (s.withSlot i x).slot j = if j = i then x else s.slot j := by
  split
  · subst_vars; simp
  · exact State.withSlot_slot_of_ne s x ‹_›

@[simp] theorem State.withOccurrence_occurrence_same (s : State) (w : WindowId)
    (f : Occurrence → Occurrence) : (s.withOccurrence w f).occurrence w = f (s.occurrence w) := by
  simp [State.withOccurrence, State.occurrence]

theorem State.withOccurrence_occurrence_of_ne (s : State) {w v : WindowId}
    (f : Occurrence → Occurrence) (h : v ≠ w) :
    (s.withOccurrence w f).occurrence v = s.occurrence v := by
  simp [State.withOccurrence, State.occurrence, look_put_of_ne _ _ h]

/-! ### What an update leaves alone, by place -/

@[simp] theorem State.withPort_slot (s : State) (p : PortId) (f : Port → Port) (i : SlotId) :
    (s.withPort p f).slot i = s.slot i := rfl

@[simp] theorem State.withPort_occurrence (s : State) (p : PortId) (f : Port → Port)
    (w : WindowId) : (s.withPort p f).occurrence w = s.occurrence w := rfl

@[simp] theorem State.withSlot_port (s : State) (i : SlotId) (x : Slot) (p : PortId) :
    (s.withSlot i x).port p = s.port p := rfl

@[simp] theorem State.withSlot_occurrence (s : State) (i : SlotId) (x : Slot) (w : WindowId) :
    (s.withSlot i x).occurrence w = s.occurrence w := rfl

@[simp] theorem State.withOccurrence_port (s : State) (w : WindowId)
    (f : Occurrence → Occurrence) (p : PortId) : (s.withOccurrence w f).port p = s.port p := rfl

@[simp] theorem State.withOccurrence_slot (s : State) (w : WindowId)
    (f : Occurrence → Occurrence) (i : SlotId) : (s.withOccurrence w f).slot i = s.slot i := rfl

@[simp] theorem State.withChannel_port (s : State) (c : CompletionChannel) (p : PortId) :
    (s.withChannel c).port p = s.port p := rfl

@[simp] theorem State.withChannel_slot (s : State) (c : CompletionChannel) (i : SlotId) :
    (s.withChannel c).slot i = s.slot i := rfl

@[simp] theorem State.withChannel_occurrence (s : State) (c : CompletionChannel) (w : WindowId) :
    (s.withChannel c).occurrence w = s.occurrence w := rfl

@[simp] theorem State.withPending_port (s : State) (cs : List Instr) (p : PortId) :
    (s.withPending cs).port p = s.port p := rfl

@[simp] theorem State.withPending_slot (s : State) (cs : List Instr) (i : SlotId) :
    (s.withPending cs).slot i = s.slot i := rfl

@[simp] theorem State.withPending_occurrence (s : State) (cs : List Instr) (w : WindowId) :
    (s.withPending cs).occurrence w = s.occurrence w := rfl

end Sys2Proof.Machine
end

