-- ==== Sys2Proof/Laws/Events.lean ====
section
/-! SUPPORT. Forming and offering event records: what `record` and `recordAll` can do, and every
field they leave alone. -/

namespace Sys2Proof.Machine

/-- Offering a record changes the event queue and the drop count only. -/
theorem State.record_eq (s : State) (o : Occasion) :
    s.record o = { s with events := (s.record o).events, dropCount := (s.record o).dropCount } := by
  unfold State.record
  split
  · split <;> rfl
  · rfl

/-- A record of a disabled kind is discarded (R147). -/
theorem State.record_of_disabled (s : State) (o : Occasion) (h : look s.enables o.kindCode = false) :
    s.record o = s := by
  simp [State.record, h]

/-- A record of an enabled kind joins a queue that is not full (R148). -/
theorem State.record_of_room (s : State) (o : Occasion) (h : look s.enables o.kindCode = true)
    (room : s.events.length < Config.eventCapacity) :
    s.record o = { s with events := s.events ++ [⟨s.frameNumber, s.frameTick, o⟩] } := by
  simp [State.record, h, room]

/-- A record of an enabled kind is dropped and counted when the queue is full (R148, R149). -/
theorem State.record_of_full (s : State) (o : Occasion) (h : look s.enables o.kindCode = true)
    (full : ¬ s.events.length < Config.eventCapacity) :
    s.record o = { s with dropCount := min Config.dropLimit (s.dropCount + 1) } := by
  simp [State.record, h, full]

/-- The records of one event change the event queue and the drop count only. -/
theorem State.recordAll_eq (s : State) (os : List Occasion) :
    s.recordAll os
      = { s with events := (s.recordAll os).events, dropCount := (s.recordAll os).dropCount } := by
  induction os generalizing s with
  | nil => rfl
  | cons o os ih =>
    have h : s.recordAll (o :: os) = (s.record o).recordAll os := rfl
    have key : ∀ (t : State) (e : List EventRecord) (d : Nat),
        t = { s with events := t.events, dropCount := t.dropCount } →
          { t with events := e, dropCount := d } = { s with events := e, dropCount := d } := by
      intro t e d ht
      rw [ht]
    rw [h]
    exact (ih (s.record o)).trans (key _ _ _ (s.record_eq o))

@[simp] theorem State.recordAll_nil (s : State) : s.recordAll [] = s := rfl

@[simp] theorem State.recordAll_cons (s : State) (o : Occasion) (os : List Occasion) :
    s.recordAll (o :: os) = (s.record o).recordAll os := rfl

/-- What offering a record leaves alone. -/
@[simp] theorem State.record_rest (s : State) (o : Occasion) :
    (s.record o).pending = s.pending ∧ (s.record o).draws = s.draws
    ∧ (s.record o).deviceReset = s.deviceReset ∧ (s.record o).linkReady = s.linkReady
    ∧ (s.record o).clocks = s.clocks ∧ (s.record o).tickCount = s.tickCount
    ∧ (s.record o).frameTick = s.frameTick ∧ (s.record o).frameNumber = s.frameNumber
    ∧ (s.record o).active = s.active ∧ (s.record o).staged = s.staged
    ∧ (s.record o).commitPending = s.commitPending ∧ (s.record o).occurrences = s.occurrences
    ∧ (s.record o).usage = s.usage ∧ (s.record o).ports = s.ports
    ∧ (s.record o).threshold = s.threshold ∧ (s.record o).slots = s.slots
    ∧ (s.record o).completion = s.completion ∧ (s.record o).rules = s.rules
    ∧ (s.record o).defaultAction = s.defaultAction ∧ (s.record o).deadline = s.deadline
    ∧ (s.record o).link = s.link ∧ (s.record o).holder = s.holder ∧ (s.record o).enables = s.enables
    ∧ (s.record o).frame = s.frame ∧ (∀ p₁, (s.record o).port p₁ = s.port p₁)
    ∧ (∀ i₁, (s.record o).slot i₁ = s.slot i₁)
    ∧ (∀ w₁, (s.record o).occurrence w₁ = s.occurrence w₁) := by
  rw [State.record_eq]
  simp [State.port, State.slot, State.occurrence]

/-- What offering several records leaves alone. -/
@[simp] theorem State.recordAll_rest (s : State) (os : List Occasion) :
    (s.recordAll os).pending = s.pending ∧ (s.recordAll os).draws = s.draws
    ∧ (s.recordAll os).deviceReset = s.deviceReset ∧ (s.recordAll os).linkReady = s.linkReady
    ∧ (s.recordAll os).clocks = s.clocks ∧ (s.recordAll os).tickCount = s.tickCount
    ∧ (s.recordAll os).frameTick = s.frameTick ∧ (s.recordAll os).frameNumber = s.frameNumber
    ∧ (s.recordAll os).active = s.active ∧ (s.recordAll os).staged = s.staged
    ∧ (s.recordAll os).commitPending = s.commitPending
    ∧ (s.recordAll os).occurrences = s.occurrences ∧ (s.recordAll os).usage = s.usage
    ∧ (s.recordAll os).ports = s.ports ∧ (s.recordAll os).threshold = s.threshold
    ∧ (s.recordAll os).slots = s.slots ∧ (s.recordAll os).completion = s.completion
    ∧ (s.recordAll os).rules = s.rules ∧ (s.recordAll os).defaultAction = s.defaultAction
    ∧ (s.recordAll os).deadline = s.deadline ∧ (s.recordAll os).link = s.link
    ∧ (s.recordAll os).holder = s.holder ∧ (s.recordAll os).enables = s.enables
    ∧ (s.recordAll os).frame = s.frame ∧ (∀ p₁, (s.recordAll os).port p₁ = s.port p₁)
    ∧ (∀ i₁, (s.recordAll os).slot i₁ = s.slot i₁)
    ∧ (∀ w₁, (s.recordAll os).occurrence w₁ = s.occurrence w₁) := by
  rw [State.recordAll_eq]
  simp [State.port, State.slot, State.occurrence]

/-- The event queue keeps its capacity (R148). -/
theorem State.record_events_le (s : State) (o : Occasion)
    (h : s.events.length ≤ Config.eventCapacity) :
    (s.record o).events.length ≤ Config.eventCapacity := by
  unfold State.record
  split
  · split
    · simp only [List.length_append, List.length_singleton]; omega
    · exact h
  · exact h

/-- The drop count stays within its limit (R149). -/
theorem State.record_dropCount_le (s : State) (o : Occasion) (h : s.dropCount ≤ Config.dropLimit) :
    (s.record o).dropCount ≤ Config.dropLimit := by
  unfold State.record
  split
  · split
    · exact h
    · exact Nat.min_le_left _ _
  · exact h

/-- The records already in the queue stay at its front (R145, R148). -/
theorem State.record_keeps (s : State) (o : Occasion) : s.events <+: (s.record o).events := by
  unfold State.record
  split
  · split
    · exact List.prefix_append _ _
    · exact List.prefix_rfl
  · exact List.prefix_rfl

end Sys2Proof.Machine
end

