-- ==== Sys2Proof/Laws/Frames.lean ====
section
/-! SUPPORT. What each shared operation leaves alone: one lemma per operation, over the fields it does
not change and the places read from them. -/

namespace Sys2Proof.Machine

/-- What the closing of windows leaves alone (R16). -/
@[simp] theorem State.closeWindows_rest (s : State) (k : Nat) :
    (s.closeWindows k).pending = s.pending ∧ (s.closeWindows k).draws = s.draws
    ∧ (s.closeWindows k).deviceReset = s.deviceReset ∧ (s.closeWindows k).linkReady = s.linkReady
    ∧ (s.closeWindows k).clocks = s.clocks ∧ (s.closeWindows k).tickCount = s.tickCount
    ∧ (s.closeWindows k).frameTick = s.frameTick ∧ (s.closeWindows k).frameNumber = s.frameNumber
    ∧ (s.closeWindows k).active = s.active ∧ (s.closeWindows k).staged = s.staged
    ∧ (s.closeWindows k).commitPending = s.commitPending ∧ (s.closeWindows k).ports = s.ports
    ∧ (s.closeWindows k).threshold = s.threshold ∧ (s.closeWindows k).slots = s.slots
    ∧ (s.closeWindows k).completion = s.completion ∧ (s.closeWindows k).rules = s.rules
    ∧ (s.closeWindows k).defaultAction = s.defaultAction ∧ (s.closeWindows k).deadline = s.deadline
    ∧ (s.closeWindows k).link = s.link ∧ (s.closeWindows k).events = s.events
    ∧ (s.closeWindows k).dropCount = s.dropCount ∧ (s.closeWindows k).holder = s.holder
    ∧ (s.closeWindows k).enables = s.enables ∧ (s.closeWindows k).frame = s.frame
    ∧ (∀ p₁, (s.closeWindows k).port p₁ = s.port p₁)
    ∧ (∀ i₁, (s.closeWindows k).slot i₁ = s.slot i₁) := by
  simp [State.closeWindows, State.port, State.slot, State.occurrence]

/-- What the opening of windows leaves alone (R15). -/
@[simp] theorem State.openWindows_rest (s : State) (k : Nat) :
    (s.openWindows k).pending = s.pending ∧ (s.openWindows k).draws = s.draws
    ∧ (s.openWindows k).deviceReset = s.deviceReset ∧ (s.openWindows k).linkReady = s.linkReady
    ∧ (s.openWindows k).clocks = s.clocks ∧ (s.openWindows k).tickCount = s.tickCount
    ∧ (s.openWindows k).frameTick = s.frameTick ∧ (s.openWindows k).frameNumber = s.frameNumber
    ∧ (s.openWindows k).active = s.active ∧ (s.openWindows k).staged = s.staged
    ∧ (s.openWindows k).commitPending = s.commitPending ∧ (s.openWindows k).usage = s.usage
    ∧ (s.openWindows k).ports = s.ports ∧ (s.openWindows k).threshold = s.threshold
    ∧ (s.openWindows k).slots = s.slots ∧ (s.openWindows k).completion = s.completion
    ∧ (s.openWindows k).rules = s.rules ∧ (s.openWindows k).defaultAction = s.defaultAction
    ∧ (s.openWindows k).deadline = s.deadline ∧ (s.openWindows k).link = s.link
    ∧ (s.openWindows k).events = s.events ∧ (s.openWindows k).dropCount = s.dropCount
    ∧ (s.openWindows k).holder = s.holder ∧ (s.openWindows k).enables = s.enables
    ∧ (s.openWindows k).frame = s.frame ∧ (∀ p₁, (s.openWindows k).port p₁ = s.port p₁)
    ∧ (∀ i₁, (s.openWindows k).slot i₁ = s.slot i₁) := by
  simp [State.openWindows, State.port, State.slot, State.occurrence]

/-- What a schedule switch leaves alone (R12). -/
@[simp] theorem State.switchSchedule_rest (s : State) :
    (s.switchSchedule).pending = s.pending ∧ (s.switchSchedule).draws = s.draws
    ∧ (s.switchSchedule).deviceReset = s.deviceReset ∧ (s.switchSchedule).linkReady = s.linkReady
    ∧ (s.switchSchedule).clocks = s.clocks ∧ (s.switchSchedule).tickCount = s.tickCount
    ∧ (s.switchSchedule).frameTick = s.frameTick ∧ (s.switchSchedule).frameNumber = s.frameNumber
    ∧ (s.switchSchedule).staged = s.staged ∧ (s.switchSchedule).occurrences = s.occurrences
    ∧ (s.switchSchedule).ports = s.ports ∧ (s.switchSchedule).threshold = s.threshold
    ∧ (s.switchSchedule).slots = s.slots ∧ (s.switchSchedule).completion = s.completion
    ∧ (s.switchSchedule).rules = s.rules ∧ (s.switchSchedule).defaultAction = s.defaultAction
    ∧ (s.switchSchedule).deadline = s.deadline ∧ (s.switchSchedule).link = s.link
    ∧ (s.switchSchedule).holder = s.holder ∧ (s.switchSchedule).enables = s.enables
    ∧ (s.switchSchedule).frame = s.frame ∧ (∀ p₁, (s.switchSchedule).port p₁ = s.port p₁)
    ∧ (∀ i₁, (s.switchSchedule).slot i₁ = s.slot i₁)
    ∧ (∀ w₁, (s.switchSchedule).occurrence w₁ = s.occurrence w₁) := by
  simp [State.switchSchedule, State.port, State.slot, State.occurrence]

/-- What a frame start leaves alone (R14). -/
@[simp] theorem State.frameStart_rest (s : State) :
    (s.frameStart).pending = s.pending ∧ (s.frameStart).draws = s.draws
    ∧ (s.frameStart).deviceReset = s.deviceReset ∧ (s.frameStart).linkReady = s.linkReady
    ∧ (s.frameStart).clocks = s.clocks ∧ (s.frameStart).tickCount = s.tickCount
    ∧ (s.frameStart).staged = s.staged ∧ (s.frameStart).ports = s.ports
    ∧ (s.frameStart).threshold = s.threshold ∧ (s.frameStart).slots = s.slots
    ∧ (s.frameStart).completion = s.completion ∧ (s.frameStart).rules = s.rules
    ∧ (s.frameStart).defaultAction = s.defaultAction ∧ (s.frameStart).deadline = s.deadline
    ∧ (s.frameStart).link = s.link ∧ (s.frameStart).holder = s.holder
    ∧ (s.frameStart).enables = s.enables ∧ (s.frameStart).frame = s.frame
    ∧ (∀ p₁, (s.frameStart).port p₁ = s.port p₁) ∧ (∀ i₁, (s.frameStart).slot i₁ = s.slot i₁) := by
  unfold State.frameStart
  dsimp only
  split <;> simp [State.port, State.slot]

/-- What the frame timer leaves alone at a tick end (R3). -/
@[simp] theorem State.advanceFrame_rest (s : State) :
    (s.advanceFrame).pending = s.pending ∧ (s.advanceFrame).draws = s.draws
    ∧ (s.advanceFrame).deviceReset = s.deviceReset ∧ (s.advanceFrame).linkReady = s.linkReady
    ∧ (s.advanceFrame).clocks = s.clocks ∧ (s.advanceFrame).tickCount = s.tickCount
    ∧ (s.advanceFrame).staged = s.staged ∧ (s.advanceFrame).ports = s.ports
    ∧ (s.advanceFrame).threshold = s.threshold ∧ (s.advanceFrame).slots = s.slots
    ∧ (s.advanceFrame).completion = s.completion ∧ (s.advanceFrame).rules = s.rules
    ∧ (s.advanceFrame).defaultAction = s.defaultAction ∧ (s.advanceFrame).deadline = s.deadline
    ∧ (s.advanceFrame).link = s.link ∧ (s.advanceFrame).holder = s.holder
    ∧ (s.advanceFrame).enables = s.enables ∧ (s.advanceFrame).frame = s.frame
    ∧ (∀ p₁, (s.advanceFrame).port p₁ = s.port p₁) ∧ (∀ i₁, (s.advanceFrame).slot i₁ = s.slot i₁) := by
  unfold State.advanceFrame
  dsimp only
  split <;> simp [State.port, State.slot]

/-- What the spent mark leaves alone (R19). -/
@[simp] theorem State.markSpent_rest (s : State) (w : WindowId) :
    (s.markSpent w).pending = s.pending ∧ (s.markSpent w).draws = s.draws
    ∧ (s.markSpent w).deviceReset = s.deviceReset ∧ (s.markSpent w).linkReady = s.linkReady
    ∧ (s.markSpent w).clocks = s.clocks ∧ (s.markSpent w).tickCount = s.tickCount
    ∧ (s.markSpent w).frameTick = s.frameTick ∧ (s.markSpent w).frameNumber = s.frameNumber
    ∧ (s.markSpent w).active = s.active ∧ (s.markSpent w).staged = s.staged
    ∧ (s.markSpent w).commitPending = s.commitPending ∧ (s.markSpent w).usage = s.usage
    ∧ (s.markSpent w).ports = s.ports ∧ (s.markSpent w).threshold = s.threshold
    ∧ (s.markSpent w).slots = s.slots ∧ (s.markSpent w).completion = s.completion
    ∧ (s.markSpent w).rules = s.rules ∧ (s.markSpent w).defaultAction = s.defaultAction
    ∧ (s.markSpent w).deadline = s.deadline ∧ (s.markSpent w).link = s.link
    ∧ (s.markSpent w).holder = s.holder ∧ (s.markSpent w).enables = s.enables
    ∧ (s.markSpent w).frame = s.frame ∧ (∀ p₁, (s.markSpent w).port p₁ = s.port p₁)
    ∧ (∀ i₁, (s.markSpent w).slot i₁ = s.slot i₁) := by
  unfold State.markSpent
  repeat' split
  all_goals simp

/-- What a decision leaves alone (R43). -/
@[simp] theorem State.takeDecision_rest (s : State) :
    (s.takeDecision).pending = s.pending ∧ (s.takeDecision).draws = s.draws
    ∧ (s.takeDecision).deviceReset = s.deviceReset ∧ (s.takeDecision).linkReady = s.linkReady
    ∧ (s.takeDecision).clocks = s.clocks ∧ (s.takeDecision).tickCount = s.tickCount
    ∧ (s.takeDecision).frameTick = s.frameTick ∧ (s.takeDecision).frameNumber = s.frameNumber
    ∧ (s.takeDecision).active = s.active ∧ (s.takeDecision).staged = s.staged
    ∧ (s.takeDecision).commitPending = s.commitPending ∧ (s.takeDecision).usage = s.usage
    ∧ (s.takeDecision).ports = s.ports ∧ (s.takeDecision).threshold = s.threshold
    ∧ (s.takeDecision).slots = s.slots ∧ (s.takeDecision).completion = s.completion
    ∧ (s.takeDecision).rules = s.rules ∧ (s.takeDecision).defaultAction = s.defaultAction
    ∧ (s.takeDecision).deadline = s.deadline ∧ (s.takeDecision).link = s.link
    ∧ (s.takeDecision).holder = s.holder ∧ (s.takeDecision).enables = s.enables
    ∧ (s.takeDecision).frame = s.frame ∧ (∀ p₁, (s.takeDecision).port p₁ = s.port p₁)
    ∧ (∀ i₁, (s.takeDecision).slot i₁ = s.slot i₁) := by
  unfold State.takeDecision
  repeat' split
  all_goals simp

/-- What a decision after a memory port event leaves alone (R43). -/
@[simp] theorem State.decideAfter_rest (t s : State) :
    (t.decideAfter s).pending = t.pending ∧ (t.decideAfter s).draws = t.draws
    ∧ (t.decideAfter s).deviceReset = t.deviceReset ∧ (t.decideAfter s).linkReady = t.linkReady
    ∧ (t.decideAfter s).clocks = t.clocks ∧ (t.decideAfter s).tickCount = t.tickCount
    ∧ (t.decideAfter s).frameTick = t.frameTick ∧ (t.decideAfter s).frameNumber = t.frameNumber
    ∧ (t.decideAfter s).active = t.active ∧ (t.decideAfter s).staged = t.staged
    ∧ (t.decideAfter s).commitPending = t.commitPending ∧ (t.decideAfter s).usage = t.usage
    ∧ (t.decideAfter s).ports = t.ports ∧ (t.decideAfter s).threshold = t.threshold
    ∧ (t.decideAfter s).slots = t.slots ∧ (t.decideAfter s).completion = t.completion
    ∧ (t.decideAfter s).rules = t.rules ∧ (t.decideAfter s).defaultAction = t.defaultAction
    ∧ (t.decideAfter s).deadline = t.deadline ∧ (t.decideAfter s).link = t.link
    ∧ (t.decideAfter s).holder = t.holder ∧ (t.decideAfter s).enables = t.enables
    ∧ (t.decideAfter s).frame = t.frame ∧ (∀ p₁, (t.decideAfter s).port p₁ = t.port p₁)
    ∧ (∀ i₁, (t.decideAfter s).slot i₁ = t.slot i₁) := by
  unfold State.decideAfter
  repeat' split
  all_goals simp

/-- What the accounting of a grant leaves alone (R18, R20). -/
@[simp] theorem State.account_rest (s : State) (course : Course) (n : Nat) :
    (s.account course n).pending = s.pending ∧ (s.account course n).draws = s.draws
    ∧ (s.account course n).deviceReset = s.deviceReset
    ∧ (s.account course n).linkReady = s.linkReady ∧ (s.account course n).clocks = s.clocks
    ∧ (s.account course n).tickCount = s.tickCount ∧ (s.account course n).frameTick = s.frameTick
    ∧ (s.account course n).frameNumber = s.frameNumber ∧ (s.account course n).active = s.active
    ∧ (s.account course n).staged = s.staged ∧ (s.account course n).commitPending = s.commitPending
    ∧ (s.account course n).usage = s.usage ∧ (s.account course n).ports = s.ports
    ∧ (s.account course n).threshold = s.threshold ∧ (s.account course n).slots = s.slots
    ∧ (s.account course n).completion = s.completion ∧ (s.account course n).rules = s.rules
    ∧ (s.account course n).defaultAction = s.defaultAction
    ∧ (s.account course n).deadline = s.deadline ∧ (s.account course n).link = s.link
    ∧ (s.account course n).events = s.events ∧ (s.account course n).dropCount = s.dropCount
    ∧ (s.account course n).holder = s.holder ∧ (s.account course n).enables = s.enables
    ∧ (s.account course n).frame = s.frame ∧ (∀ p₁, (s.account course n).port p₁ = s.port p₁)
    ∧ (∀ i₁, (s.account course n).slot i₁ = s.slot i₁) := by
  cases course <;> simp [State.account]

/-- What the settling of an entry leaves alone (R94). -/
@[simp] theorem State.settle_rest (s : State) (p : PortId) (isIt : ReplyEntry → Bool) (status : ReplyStatus)
    (data : List BeatData) :
    (s.settle p isIt status data).pending = s.pending
    ∧ (s.settle p isIt status data).draws = s.draws
    ∧ (s.settle p isIt status data).deviceReset = s.deviceReset
    ∧ (s.settle p isIt status data).linkReady = s.linkReady
    ∧ (s.settle p isIt status data).clocks = s.clocks
    ∧ (s.settle p isIt status data).tickCount = s.tickCount
    ∧ (s.settle p isIt status data).frameTick = s.frameTick
    ∧ (s.settle p isIt status data).frameNumber = s.frameNumber
    ∧ (s.settle p isIt status data).active = s.active
    ∧ (s.settle p isIt status data).staged = s.staged
    ∧ (s.settle p isIt status data).commitPending = s.commitPending
    ∧ (s.settle p isIt status data).occurrences = s.occurrences
    ∧ (s.settle p isIt status data).usage = s.usage
    ∧ (s.settle p isIt status data).threshold = s.threshold
    ∧ (s.settle p isIt status data).slots = s.slots
    ∧ (s.settle p isIt status data).completion = s.completion
    ∧ (s.settle p isIt status data).rules = s.rules
    ∧ (s.settle p isIt status data).defaultAction = s.defaultAction
    ∧ (s.settle p isIt status data).deadline = s.deadline
    ∧ (s.settle p isIt status data).link = s.link ∧ (s.settle p isIt status data).events = s.events
    ∧ (s.settle p isIt status data).dropCount = s.dropCount
    ∧ (s.settle p isIt status data).holder = s.holder
    ∧ (s.settle p isIt status data).enables = s.enables
    ∧ (s.settle p isIt status data).frame = s.frame
    ∧ (∀ i₁, (s.settle p isIt status data).slot i₁ = s.slot i₁)
    ∧ (∀ w₁, (s.settle p isIt status data).occurrence w₁ = s.occurrence w₁) := by
  simp [State.settle]

/-- What the settling of a slot's entry leaves alone (R94, R96). -/
@[simp] theorem State.settleSlot_rest (s : State) (i : SlotId) (c : Command) (status : ReplyStatus)
    (data : List BeatData) :
    (s.settleSlot i c status data).pending = s.pending
    ∧ (s.settleSlot i c status data).draws = s.draws
    ∧ (s.settleSlot i c status data).deviceReset = s.deviceReset
    ∧ (s.settleSlot i c status data).linkReady = s.linkReady
    ∧ (s.settleSlot i c status data).clocks = s.clocks
    ∧ (s.settleSlot i c status data).tickCount = s.tickCount
    ∧ (s.settleSlot i c status data).frameTick = s.frameTick
    ∧ (s.settleSlot i c status data).frameNumber = s.frameNumber
    ∧ (s.settleSlot i c status data).active = s.active
    ∧ (s.settleSlot i c status data).staged = s.staged
    ∧ (s.settleSlot i c status data).commitPending = s.commitPending
    ∧ (s.settleSlot i c status data).occurrences = s.occurrences
    ∧ (s.settleSlot i c status data).usage = s.usage
    ∧ (s.settleSlot i c status data).threshold = s.threshold
    ∧ (s.settleSlot i c status data).slots = s.slots
    ∧ (s.settleSlot i c status data).completion = s.completion
    ∧ (s.settleSlot i c status data).rules = s.rules
    ∧ (s.settleSlot i c status data).defaultAction = s.defaultAction
    ∧ (s.settleSlot i c status data).deadline = s.deadline
    ∧ (s.settleSlot i c status data).link = s.link
    ∧ (s.settleSlot i c status data).events = s.events
    ∧ (s.settleSlot i c status data).dropCount = s.dropCount
    ∧ (s.settleSlot i c status data).holder = s.holder
    ∧ (s.settleSlot i c status data).enables = s.enables
    ∧ (s.settleSlot i c status data).frame = s.frame
    ∧ (∀ i₁, (s.settleSlot i c status data).slot i₁ = s.slot i₁)
    ∧ (∀ w₁, (s.settleSlot i c status data).occurrence w₁ = s.occurrence w₁) := by
  unfold State.settleSlot
  repeat' split
  all_goals simp

/-- What the drain check leaves alone (R135). -/
@[simp] theorem State.drainCheck_rest (s : State) (p : PortId) :
    (s.drainCheck p).pending = s.pending ∧ (s.drainCheck p).draws = s.draws
    ∧ (s.drainCheck p).deviceReset = s.deviceReset ∧ (s.drainCheck p).linkReady = s.linkReady
    ∧ (s.drainCheck p).clocks = s.clocks ∧ (s.drainCheck p).tickCount = s.tickCount
    ∧ (s.drainCheck p).frameTick = s.frameTick ∧ (s.drainCheck p).frameNumber = s.frameNumber
    ∧ (s.drainCheck p).active = s.active ∧ (s.drainCheck p).staged = s.staged
    ∧ (s.drainCheck p).commitPending = s.commitPending
    ∧ (s.drainCheck p).occurrences = s.occurrences ∧ (s.drainCheck p).usage = s.usage
    ∧ (s.drainCheck p).threshold = s.threshold ∧ (s.drainCheck p).slots = s.slots
    ∧ (s.drainCheck p).completion = s.completion ∧ (s.drainCheck p).rules = s.rules
    ∧ (s.drainCheck p).defaultAction = s.defaultAction ∧ (s.drainCheck p).deadline = s.deadline
    ∧ (s.drainCheck p).link = s.link ∧ (s.drainCheck p).holder = s.holder
    ∧ (s.drainCheck p).enables = s.enables ∧ (s.drainCheck p).frame = s.frame
    ∧ (∀ i₁, (s.drainCheck p).slot i₁ = s.slot i₁)
    ∧ (∀ w₁, (s.drainCheck p).occurrence w₁ = s.occurrence w₁) := by
  unfold State.drainCheck
  repeat' split
  all_goals simp

/-- What an orphaning leaves alone (R79). -/
@[simp] theorem State.orphan_rest (s : State) (i : SlotId) :
    (s.orphan i).pending = s.pending ∧ (s.orphan i).draws = s.draws
    ∧ (s.orphan i).deviceReset = s.deviceReset ∧ (s.orphan i).linkReady = s.linkReady
    ∧ (s.orphan i).clocks = s.clocks ∧ (s.orphan i).tickCount = s.tickCount
    ∧ (s.orphan i).frameTick = s.frameTick ∧ (s.orphan i).frameNumber = s.frameNumber
    ∧ (s.orphan i).active = s.active ∧ (s.orphan i).staged = s.staged
    ∧ (s.orphan i).commitPending = s.commitPending ∧ (s.orphan i).occurrences = s.occurrences
    ∧ (s.orphan i).usage = s.usage ∧ (s.orphan i).ports = s.ports
    ∧ (s.orphan i).threshold = s.threshold ∧ (s.orphan i).rules = s.rules
    ∧ (s.orphan i).defaultAction = s.defaultAction ∧ (s.orphan i).deadline = s.deadline
    ∧ (s.orphan i).link = s.link ∧ (s.orphan i).events = s.events
    ∧ (s.orphan i).dropCount = s.dropCount ∧ (s.orphan i).holder = s.holder
    ∧ (s.orphan i).enables = s.enables ∧ (s.orphan i).frame = s.frame
    ∧ (∀ p₁, (s.orphan i).port p₁ = s.port p₁)
    ∧ (∀ w₁, (s.orphan i).occurrence w₁ = s.occurrence w₁) := by
  unfold State.orphan
  split <;> simp [State.withSlot, State.port, State.occurrence]

/-- What a grant leaves alone (R59). -/
@[simp] theorem State.grant_rest (s : State) (p : PortId) (course : Course) :
    (s.grant p course).pending = s.pending ∧ (s.grant p course).draws = s.draws
    ∧ (s.grant p course).deviceReset = s.deviceReset ∧ (s.grant p course).linkReady = s.linkReady
    ∧ (s.grant p course).clocks = s.clocks ∧ (s.grant p course).tickCount = s.tickCount
    ∧ (s.grant p course).frameTick = s.frameTick ∧ (s.grant p course).frameNumber = s.frameNumber
    ∧ (s.grant p course).active = s.active ∧ (s.grant p course).staged = s.staged
    ∧ (s.grant p course).commitPending = s.commitPending ∧ (s.grant p course).usage = s.usage
    ∧ (s.grant p course).threshold = s.threshold ∧ (s.grant p course).completion = s.completion
    ∧ (s.grant p course).rules = s.rules ∧ (s.grant p course).defaultAction = s.defaultAction
    ∧ (s.grant p course).deadline = s.deadline ∧ (s.grant p course).link = s.link
    ∧ (s.grant p course).holder = s.holder ∧ (s.grant p course).enables = s.enables
    ∧ (s.grant p course).frame = s.frame := by
  unfold State.grant
  repeat' split
  all_goals simp

/-- What a RULE_HIT leaves alone (R110). -/
@[simp] theorem State.ruleHit_rest (s : State) (p : PortId) (r : Request) (q : Sequence) (refused : Bool)
    (k : Option RuleId) :
    (s.ruleHit p r q refused k).pending = s.pending ∧ (s.ruleHit p r q refused k).draws = s.draws
    ∧ (s.ruleHit p r q refused k).deviceReset = s.deviceReset
    ∧ (s.ruleHit p r q refused k).linkReady = s.linkReady
    ∧ (s.ruleHit p r q refused k).clocks = s.clocks
    ∧ (s.ruleHit p r q refused k).tickCount = s.tickCount
    ∧ (s.ruleHit p r q refused k).frameTick = s.frameTick
    ∧ (s.ruleHit p r q refused k).frameNumber = s.frameNumber
    ∧ (s.ruleHit p r q refused k).active = s.active ∧ (s.ruleHit p r q refused k).staged = s.staged
    ∧ (s.ruleHit p r q refused k).commitPending = s.commitPending
    ∧ (s.ruleHit p r q refused k).occurrences = s.occurrences
    ∧ (s.ruleHit p r q refused k).usage = s.usage ∧ (s.ruleHit p r q refused k).ports = s.ports
    ∧ (s.ruleHit p r q refused k).threshold = s.threshold
    ∧ (s.ruleHit p r q refused k).slots = s.slots
    ∧ (s.ruleHit p r q refused k).completion = s.completion
    ∧ (s.ruleHit p r q refused k).rules = s.rules
    ∧ (s.ruleHit p r q refused k).defaultAction = s.defaultAction
    ∧ (s.ruleHit p r q refused k).deadline = s.deadline ∧ (s.ruleHit p r q refused k).link = s.link
    ∧ (s.ruleHit p r q refused k).holder = s.holder
    ∧ (s.ruleHit p r q refused k).enables = s.enables ∧ (s.ruleHit p r q refused k).frame = s.frame
    ∧ (∀ p₁, (s.ruleHit p r q refused k).port p₁ = s.port p₁)
    ∧ (∀ i₁, (s.ruleHit p r q refused k).slot i₁ = s.slot i₁)
    ∧ (∀ w₁, (s.ruleHit p r q refused k).occurrence w₁ = s.occurrence w₁) := by
  cases k <;> simp [State.ruleHit]

/-- What an arrival leaves alone (R33). -/
@[simp] theorem State.arrive_rest (s : State) (p : PortId) (r : Request) :
    (s.arrive p r).pending = s.pending ∧ (s.arrive p r).draws = s.draws
    ∧ (s.arrive p r).deviceReset = s.deviceReset ∧ (s.arrive p r).linkReady = s.linkReady
    ∧ (s.arrive p r).clocks = s.clocks ∧ (s.arrive p r).tickCount = s.tickCount
    ∧ (s.arrive p r).frameTick = s.frameTick ∧ (s.arrive p r).frameNumber = s.frameNumber
    ∧ (s.arrive p r).active = s.active ∧ (s.arrive p r).staged = s.staged
    ∧ (s.arrive p r).commitPending = s.commitPending ∧ (s.arrive p r).usage = s.usage
    ∧ (s.arrive p r).threshold = s.threshold ∧ (s.arrive p r).slots = s.slots
    ∧ (s.arrive p r).completion = s.completion ∧ (s.arrive p r).rules = s.rules
    ∧ (s.arrive p r).defaultAction = s.defaultAction ∧ (s.arrive p r).deadline = s.deadline
    ∧ (s.arrive p r).link = s.link ∧ (s.arrive p r).holder = s.holder
    ∧ (s.arrive p r).enables = s.enables ∧ (s.arrive p r).frame = s.frame
    ∧ (∀ i₁, (s.arrive p r).slot i₁ = s.slot i₁) := by
  unfold State.arrive
  dsimp only
  split <;> simp

/-- What the end of a completion leaves alone (R76, R77). -/
@[simp] theorem State.endCompletion_rest (s : State) (i : SlotId) :
    (s.endCompletion i).pending = s.pending ∧ (s.endCompletion i).draws = s.draws
    ∧ (s.endCompletion i).deviceReset = s.deviceReset ∧ (s.endCompletion i).linkReady = s.linkReady
    ∧ (s.endCompletion i).clocks = s.clocks ∧ (s.endCompletion i).tickCount = s.tickCount
    ∧ (s.endCompletion i).frameTick = s.frameTick ∧ (s.endCompletion i).frameNumber = s.frameNumber
    ∧ (s.endCompletion i).active = s.active ∧ (s.endCompletion i).staged = s.staged
    ∧ (s.endCompletion i).commitPending = s.commitPending
    ∧ (s.endCompletion i).occurrences = s.occurrences ∧ (s.endCompletion i).usage = s.usage
    ∧ (s.endCompletion i).threshold = s.threshold ∧ (s.endCompletion i).rules = s.rules
    ∧ (s.endCompletion i).defaultAction = s.defaultAction
    ∧ (s.endCompletion i).deadline = s.deadline ∧ (s.endCompletion i).link = s.link
    ∧ (s.endCompletion i).holder = s.holder ∧ (s.endCompletion i).enables = s.enables
    ∧ (s.endCompletion i).frame = s.frame
    ∧ (∀ w₁, (s.endCompletion i).occurrence w₁ = s.occurrence w₁) := by
  unfold State.endCompletion
  split <;> simp [State.mismatch, State.lateEnd]

/-- What the end of a completion at a header leaves alone (R76, R77). -/
@[simp] theorem State.interrupt_rest (s : State) :
    (s.interrupt).pending = s.pending ∧ (s.interrupt).draws = s.draws
    ∧ (s.interrupt).deviceReset = s.deviceReset ∧ (s.interrupt).linkReady = s.linkReady
    ∧ (s.interrupt).clocks = s.clocks ∧ (s.interrupt).tickCount = s.tickCount
    ∧ (s.interrupt).frameTick = s.frameTick ∧ (s.interrupt).frameNumber = s.frameNumber
    ∧ (s.interrupt).active = s.active ∧ (s.interrupt).staged = s.staged
    ∧ (s.interrupt).commitPending = s.commitPending ∧ (s.interrupt).occurrences = s.occurrences
    ∧ (s.interrupt).usage = s.usage ∧ (s.interrupt).threshold = s.threshold
    ∧ (s.interrupt).rules = s.rules ∧ (s.interrupt).defaultAction = s.defaultAction
    ∧ (s.interrupt).deadline = s.deadline ∧ (s.interrupt).link = s.link
    ∧ (s.interrupt).holder = s.holder ∧ (s.interrupt).enables = s.enables
    ∧ (s.interrupt).frame = s.frame ∧ (∀ w₁, (s.interrupt).occurrence w₁ = s.occurrence w₁) := by
  unfold State.interrupt
  repeat' split
  all_goals simp

/-- What a completion header leaves alone (R72). -/
@[simp] theorem State.classifyHeader_rest (s : State) (i : SlotId) (kind : Kind) (status : MemStatus) :
    (s.classifyHeader i kind status).pending = s.pending
    ∧ (s.classifyHeader i kind status).draws = s.draws
    ∧ (s.classifyHeader i kind status).deviceReset = s.deviceReset
    ∧ (s.classifyHeader i kind status).linkReady = s.linkReady
    ∧ (s.classifyHeader i kind status).clocks = s.clocks
    ∧ (s.classifyHeader i kind status).tickCount = s.tickCount
    ∧ (s.classifyHeader i kind status).frameTick = s.frameTick
    ∧ (s.classifyHeader i kind status).frameNumber = s.frameNumber
    ∧ (s.classifyHeader i kind status).active = s.active
    ∧ (s.classifyHeader i kind status).staged = s.staged
    ∧ (s.classifyHeader i kind status).commitPending = s.commitPending
    ∧ (s.classifyHeader i kind status).occurrences = s.occurrences
    ∧ (s.classifyHeader i kind status).usage = s.usage
    ∧ (s.classifyHeader i kind status).threshold = s.threshold
    ∧ (s.classifyHeader i kind status).rules = s.rules
    ∧ (s.classifyHeader i kind status).defaultAction = s.defaultAction
    ∧ (s.classifyHeader i kind status).deadline = s.deadline
    ∧ (s.classifyHeader i kind status).link = s.link
    ∧ (s.classifyHeader i kind status).holder = s.holder
    ∧ (s.classifyHeader i kind status).enables = s.enables
    ∧ (s.classifyHeader i kind status).frame = s.frame
    ∧ (∀ w₁, (s.classifyHeader i kind status).occurrence w₁ = s.occurrence w₁) := by
  unfold State.classifyHeader State.strayHeader State.lateHeader State.lateEnd State.issuedHeader
    State.faultCompletion
  repeat' split
  all_goals simp

/-- What a beat of a read in DATA leaves alone (R75). -/
@[simp] theorem State.dataBeat_rest (s : State) (i : SlotId) (c : Command) (d : Deadline)
    (beats : List BeatData) (data : BeatData) (last : Bool) :
    (s.dataBeat i c d beats data last).pending = s.pending
    ∧ (s.dataBeat i c d beats data last).draws = s.draws
    ∧ (s.dataBeat i c d beats data last).deviceReset = s.deviceReset
    ∧ (s.dataBeat i c d beats data last).linkReady = s.linkReady
    ∧ (s.dataBeat i c d beats data last).clocks = s.clocks
    ∧ (s.dataBeat i c d beats data last).tickCount = s.tickCount
    ∧ (s.dataBeat i c d beats data last).frameTick = s.frameTick
    ∧ (s.dataBeat i c d beats data last).frameNumber = s.frameNumber
    ∧ (s.dataBeat i c d beats data last).active = s.active
    ∧ (s.dataBeat i c d beats data last).staged = s.staged
    ∧ (s.dataBeat i c d beats data last).commitPending = s.commitPending
    ∧ (s.dataBeat i c d beats data last).usage = s.usage
    ∧ (s.dataBeat i c d beats data last).threshold = s.threshold
    ∧ (s.dataBeat i c d beats data last).rules = s.rules
    ∧ (s.dataBeat i c d beats data last).defaultAction = s.defaultAction
    ∧ (s.dataBeat i c d beats data last).deadline = s.deadline
    ∧ (s.dataBeat i c d beats data last).link = s.link
    ∧ (s.dataBeat i c d beats data last).holder = s.holder
    ∧ (s.dataBeat i c d beats data last).enables = s.enables
    ∧ (s.dataBeat i c d beats data last).frame = s.frame := by
  unfold State.dataBeat State.goodRead State.mismatch
  repeat' split
  all_goals simp

/-- What an expiry leaves alone (R118). -/
@[simp] theorem State.expire_rest (s : State) (i : SlotId) (c : Command) (x : ExpiryState) :
    (s.expire i c x).pending = s.pending ∧ (s.expire i c x).draws = s.draws
    ∧ (s.expire i c x).deviceReset = s.deviceReset ∧ (s.expire i c x).linkReady = s.linkReady
    ∧ (s.expire i c x).clocks = s.clocks ∧ (s.expire i c x).tickCount = s.tickCount
    ∧ (s.expire i c x).frameTick = s.frameTick ∧ (s.expire i c x).frameNumber = s.frameNumber
    ∧ (s.expire i c x).active = s.active ∧ (s.expire i c x).staged = s.staged
    ∧ (s.expire i c x).commitPending = s.commitPending ∧ (s.expire i c x).usage = s.usage
    ∧ (s.expire i c x).threshold = s.threshold ∧ (s.expire i c x).rules = s.rules
    ∧ (s.expire i c x).defaultAction = s.defaultAction ∧ (s.expire i c x).deadline = s.deadline
    ∧ (s.expire i c x).link = s.link ∧ (s.expire i c x).holder = s.holder
    ∧ (s.expire i c x).enables = s.enables ∧ (s.expire i c x).frame = s.frame := by
  simp [State.expire]

/-- What the expiry of a slot leaves alone (R118). -/
@[simp] theorem State.expireSlot_rest (s : State) (i : SlotId) :
    (s.expireSlot i).pending = s.pending ∧ (s.expireSlot i).draws = s.draws
    ∧ (s.expireSlot i).deviceReset = s.deviceReset ∧ (s.expireSlot i).linkReady = s.linkReady
    ∧ (s.expireSlot i).clocks = s.clocks ∧ (s.expireSlot i).tickCount = s.tickCount
    ∧ (s.expireSlot i).frameTick = s.frameTick ∧ (s.expireSlot i).frameNumber = s.frameNumber
    ∧ (s.expireSlot i).active = s.active ∧ (s.expireSlot i).staged = s.staged
    ∧ (s.expireSlot i).commitPending = s.commitPending ∧ (s.expireSlot i).usage = s.usage
    ∧ (s.expireSlot i).threshold = s.threshold ∧ (s.expireSlot i).rules = s.rules
    ∧ (s.expireSlot i).defaultAction = s.defaultAction ∧ (s.expireSlot i).deadline = s.deadline
    ∧ (s.expireSlot i).link = s.link ∧ (s.expireSlot i).holder = s.holder
    ∧ (s.expireSlot i).enables = s.enables ∧ (s.expireSlot i).frame = s.frame := by
  unfold State.expireSlot
  split <;> simp

/-- What the expiries of a tick end leave alone (R119). -/
@[simp] theorem State.expireAll_rest (s : State) (order : List SlotId) :
    (s.expireAll order).pending = s.pending ∧ (s.expireAll order).draws = s.draws
    ∧ (s.expireAll order).deviceReset = s.deviceReset ∧ (s.expireAll order).linkReady = s.linkReady
    ∧ (s.expireAll order).clocks = s.clocks ∧ (s.expireAll order).tickCount = s.tickCount
    ∧ (s.expireAll order).frameTick = s.frameTick ∧ (s.expireAll order).frameNumber = s.frameNumber
    ∧ (s.expireAll order).active = s.active ∧ (s.expireAll order).staged = s.staged
    ∧ (s.expireAll order).commitPending = s.commitPending ∧ (s.expireAll order).usage = s.usage
    ∧ (s.expireAll order).threshold = s.threshold ∧ (s.expireAll order).rules = s.rules
    ∧ (s.expireAll order).defaultAction = s.defaultAction
    ∧ (s.expireAll order).deadline = s.deadline ∧ (s.expireAll order).link = s.link
    ∧ (s.expireAll order).holder = s.holder ∧ (s.expireAll order).enables = s.enables
    ∧ (s.expireAll order).frame = s.frame := by
  induction order generalizing s with
  | nil => simp [State.expireAll]
  | cons i is ih => simpa [State.expireAll] using ih (s.expireSlot i)

/-- What the memory clocks of a tick leave alone (R1). -/
@[simp] theorem State.reachTickEnd_rest (s : State) :
    (s.reachTickEnd).pending = s.pending ∧ (s.reachTickEnd).draws = s.draws
    ∧ (s.reachTickEnd).deviceReset = s.deviceReset ∧ (s.reachTickEnd).linkReady = s.linkReady
    ∧ (s.reachTickEnd).tickCount = s.tickCount ∧ (s.reachTickEnd).frameTick = s.frameTick
    ∧ (s.reachTickEnd).frameNumber = s.frameNumber ∧ (s.reachTickEnd).active = s.active
    ∧ (s.reachTickEnd).staged = s.staged ∧ (s.reachTickEnd).commitPending = s.commitPending
    ∧ (s.reachTickEnd).occurrences = s.occurrences ∧ (s.reachTickEnd).usage = s.usage
    ∧ (s.reachTickEnd).ports = s.ports ∧ (s.reachTickEnd).threshold = s.threshold
    ∧ (s.reachTickEnd).slots = s.slots ∧ (s.reachTickEnd).completion = s.completion
    ∧ (s.reachTickEnd).rules = s.rules ∧ (s.reachTickEnd).defaultAction = s.defaultAction
    ∧ (s.reachTickEnd).deadline = s.deadline ∧ (s.reachTickEnd).link = s.link
    ∧ (s.reachTickEnd).events = s.events ∧ (s.reachTickEnd).dropCount = s.dropCount
    ∧ (s.reachTickEnd).holder = s.holder ∧ (s.reachTickEnd).enables = s.enables
    ∧ (s.reachTickEnd).frame = s.frame ∧ (∀ p₁, (s.reachTickEnd).port p₁ = s.port p₁)
    ∧ (∀ i₁, (s.reachTickEnd).slot i₁ = s.slot i₁)
    ∧ (∀ w₁, (s.reachTickEnd).occurrence w₁ = s.occurrence w₁) := by
  simp [State.reachTickEnd, State.port, State.slot, State.occurrence]

/-- What a link down leaves alone (R122). -/
@[simp] theorem State.takeLinkDown_rest (s : State) (cause : DownCause) (link : LinkState) :
    (s.takeLinkDown cause link).pending = s.pending ∧ (s.takeLinkDown cause link).draws = s.draws
    ∧ (s.takeLinkDown cause link).deviceReset = s.deviceReset
    ∧ (s.takeLinkDown cause link).linkReady = s.linkReady
    ∧ (s.takeLinkDown cause link).clocks = s.clocks
    ∧ (s.takeLinkDown cause link).tickCount = s.tickCount
    ∧ (s.takeLinkDown cause link).frameTick = s.frameTick
    ∧ (s.takeLinkDown cause link).frameNumber = s.frameNumber
    ∧ (s.takeLinkDown cause link).active = s.active ∧ (s.takeLinkDown cause link).staged = s.staged
    ∧ (s.takeLinkDown cause link).commitPending = s.commitPending
    ∧ (s.takeLinkDown cause link).occurrences = s.occurrences
    ∧ (s.takeLinkDown cause link).usage = s.usage
    ∧ (s.takeLinkDown cause link).threshold = s.threshold
    ∧ (s.takeLinkDown cause link).rules = s.rules
    ∧ (s.takeLinkDown cause link).defaultAction = s.defaultAction
    ∧ (s.takeLinkDown cause link).deadline = s.deadline
    ∧ (s.takeLinkDown cause link).holder = s.holder
    ∧ (s.takeLinkDown cause link).enables = s.enables ∧ (s.takeLinkDown cause link).frame = s.frame
    ∧ (∀ w₁, (s.takeLinkDown cause link).occurrence w₁ = s.occurrence w₁) := by
  simp [State.takeLinkDown, State.occurrence]

/-- What a delivery end leaves alone (R99). -/
@[simp] theorem State.endDelivery_rest (s : State) (p : PortId) :
    (s.endDelivery p).pending = s.pending ∧ (s.endDelivery p).draws = s.draws
    ∧ (s.endDelivery p).deviceReset = s.deviceReset ∧ (s.endDelivery p).linkReady = s.linkReady
    ∧ (s.endDelivery p).clocks = s.clocks ∧ (s.endDelivery p).tickCount = s.tickCount
    ∧ (s.endDelivery p).frameTick = s.frameTick ∧ (s.endDelivery p).frameNumber = s.frameNumber
    ∧ (s.endDelivery p).active = s.active ∧ (s.endDelivery p).staged = s.staged
    ∧ (s.endDelivery p).commitPending = s.commitPending ∧ (s.endDelivery p).usage = s.usage
    ∧ (s.endDelivery p).threshold = s.threshold ∧ (s.endDelivery p).slots = s.slots
    ∧ (s.endDelivery p).completion = s.completion ∧ (s.endDelivery p).rules = s.rules
    ∧ (s.endDelivery p).defaultAction = s.defaultAction ∧ (s.endDelivery p).deadline = s.deadline
    ∧ (s.endDelivery p).link = s.link ∧ (s.endDelivery p).holder = s.holder
    ∧ (s.endDelivery p).enables = s.enables ∧ (s.endDelivery p).frame = s.frame
    ∧ (∀ i₁, (s.endDelivery p).slot i₁ = s.slot i₁) := by
  simp [State.endDelivery]

/-- What a flush leaves alone (R134). -/
@[simp] theorem State.flushQueue_rest (s : State) (p : PortId) :
    (s.flushQueue p).pending = s.pending ∧ (s.flushQueue p).draws = s.draws
    ∧ (s.flushQueue p).deviceReset = s.deviceReset ∧ (s.flushQueue p).linkReady = s.linkReady
    ∧ (s.flushQueue p).clocks = s.clocks ∧ (s.flushQueue p).tickCount = s.tickCount
    ∧ (s.flushQueue p).frameTick = s.frameTick ∧ (s.flushQueue p).frameNumber = s.frameNumber
    ∧ (s.flushQueue p).active = s.active ∧ (s.flushQueue p).staged = s.staged
    ∧ (s.flushQueue p).commitPending = s.commitPending
    ∧ (s.flushQueue p).occurrences = s.occurrences ∧ (s.flushQueue p).usage = s.usage
    ∧ (s.flushQueue p).threshold = s.threshold ∧ (s.flushQueue p).slots = s.slots
    ∧ (s.flushQueue p).completion = s.completion ∧ (s.flushQueue p).rules = s.rules
    ∧ (s.flushQueue p).defaultAction = s.defaultAction ∧ (s.flushQueue p).deadline = s.deadline
    ∧ (s.flushQueue p).link = s.link ∧ (s.flushQueue p).holder = s.holder
    ∧ (s.flushQueue p).enables = s.enables ∧ (s.flushQueue p).frame = s.frame
    ∧ (∀ i₁, (s.flushQueue p).slot i₁ = s.slot i₁)
    ∧ (∀ w₁, (s.flushQueue p).occurrence w₁ = s.occurrence w₁) := by
  simp [State.flushQueue]

/-- What the assertion of a port reset leaves alone (R137). -/
@[simp] theorem State.resetPort_rest (s : State) (p : PortId) (x : ReturnState) (report : Bool) :
    (s.resetPort p x report).pending = s.pending ∧ (s.resetPort p x report).draws = s.draws
    ∧ (s.resetPort p x report).deviceReset = s.deviceReset
    ∧ (s.resetPort p x report).linkReady = s.linkReady ∧ (s.resetPort p x report).clocks = s.clocks
    ∧ (s.resetPort p x report).tickCount = s.tickCount
    ∧ (s.resetPort p x report).frameTick = s.frameTick
    ∧ (s.resetPort p x report).frameNumber = s.frameNumber
    ∧ (s.resetPort p x report).active = s.active ∧ (s.resetPort p x report).staged = s.staged
    ∧ (s.resetPort p x report).commitPending = s.commitPending
    ∧ (s.resetPort p x report).usage = s.usage ∧ (s.resetPort p x report).threshold = s.threshold
    ∧ (s.resetPort p x report).rules = s.rules
    ∧ (s.resetPort p x report).defaultAction = s.defaultAction
    ∧ (s.resetPort p x report).deadline = s.deadline ∧ (s.resetPort p x report).link = s.link
    ∧ (s.resetPort p x report).holder = s.holder ∧ (s.resetPort p x report).enables = s.enables
    ∧ (s.resetPort p x report).frame = s.frame := by
  simp [State.resetPort]

/-- What the release of a port reset leaves alone (R140). -/
@[simp] theorem State.releasePort_rest (s : State) (p : PortId) (x : ReturnState) (report : Bool) :
    (s.releasePort p x report).pending = s.pending ∧ (s.releasePort p x report).draws = s.draws
    ∧ (s.releasePort p x report).deviceReset = s.deviceReset
    ∧ (s.releasePort p x report).linkReady = s.linkReady
    ∧ (s.releasePort p x report).clocks = s.clocks
    ∧ (s.releasePort p x report).tickCount = s.tickCount
    ∧ (s.releasePort p x report).frameTick = s.frameTick
    ∧ (s.releasePort p x report).frameNumber = s.frameNumber
    ∧ (s.releasePort p x report).active = s.active ∧ (s.releasePort p x report).staged = s.staged
    ∧ (s.releasePort p x report).commitPending = s.commitPending
    ∧ (s.releasePort p x report).occurrences = s.occurrences
    ∧ (s.releasePort p x report).usage = s.usage
    ∧ (s.releasePort p x report).threshold = s.threshold
    ∧ (s.releasePort p x report).slots = s.slots
    ∧ (s.releasePort p x report).completion = s.completion
    ∧ (s.releasePort p x report).rules = s.rules
    ∧ (s.releasePort p x report).defaultAction = s.defaultAction
    ∧ (s.releasePort p x report).deadline = s.deadline ∧ (s.releasePort p x report).link = s.link
    ∧ (s.releasePort p x report).holder = s.holder ∧ (s.releasePort p x report).enables = s.enables
    ∧ (s.releasePort p x report).frame = s.frame
    ∧ (∀ i₁, (s.releasePort p x report).slot i₁ = s.slot i₁)
    ∧ (∀ w₁, (s.releasePort p x report).occurrence w₁ = s.occurrence w₁) := by
  unfold State.releasePort
  dsimp only
  split <;> simp

/-- What a WRITE of a field leaves alone (R161). -/
@[simp] theorem State.withField_rest (v : Nat) (s : State) (f : Field) :
    (s.withField v f).pending = s.pending ∧ (s.withField v f).draws = s.draws
    ∧ (s.withField v f).deviceReset = s.deviceReset ∧ (s.withField v f).linkReady = s.linkReady
    ∧ (s.withField v f).clocks = s.clocks ∧ (s.withField v f).tickCount = s.tickCount
    ∧ (s.withField v f).frameTick = s.frameTick ∧ (s.withField v f).frameNumber = s.frameNumber
    ∧ (s.withField v f).active = s.active ∧ (s.withField v f).commitPending = s.commitPending
    ∧ (s.withField v f).occurrences = s.occurrences ∧ (s.withField v f).usage = s.usage
    ∧ (s.withField v f).slots = s.slots ∧ (s.withField v f).completion = s.completion
    ∧ (s.withField v f).link = s.link ∧ (s.withField v f).events = s.events
    ∧ (s.withField v f).dropCount = s.dropCount ∧ (s.withField v f).holder = s.holder
    ∧ (s.withField v f).frame = s.frame ∧ (∀ i₁, (s.withField v f).slot i₁ = s.slot i₁)
    ∧ (∀ w₁, (s.withField v f).occurrence w₁ = s.occurrence w₁) := by
  cases f <;> try simp [State.withField, State.slot, State.occurrence]
  rename_i f
  cases f <;> simp [State.withGlobalField]

/-- What a READ_AND_CLEAR leaves alone (R162). -/
@[simp] theorem State.clearField_rest (s : State) (f : Field) :
    (s.clearField f).pending = s.pending ∧ (s.clearField f).draws = s.draws
    ∧ (s.clearField f).deviceReset = s.deviceReset ∧ (s.clearField f).linkReady = s.linkReady
    ∧ (s.clearField f).clocks = s.clocks ∧ (s.clearField f).tickCount = s.tickCount
    ∧ (s.clearField f).frameTick = s.frameTick ∧ (s.clearField f).frameNumber = s.frameNumber
    ∧ (s.clearField f).active = s.active ∧ (s.clearField f).staged = s.staged
    ∧ (s.clearField f).commitPending = s.commitPending
    ∧ (s.clearField f).occurrences = s.occurrences ∧ (s.clearField f).usage = s.usage
    ∧ (s.clearField f).threshold = s.threshold ∧ (s.clearField f).slots = s.slots
    ∧ (s.clearField f).completion = s.completion ∧ (s.clearField f).rules = s.rules
    ∧ (s.clearField f).defaultAction = s.defaultAction ∧ (s.clearField f).deadline = s.deadline
    ∧ (s.clearField f).link = s.link ∧ (s.clearField f).events = s.events
    ∧ (s.clearField f).holder = s.holder ∧ (s.clearField f).enables = s.enables
    ∧ (s.clearField f).frame = s.frame ∧ (∀ i₁, (s.clearField f).slot i₁ = s.slot i₁)
    ∧ (∀ w₁, (s.clearField f).occurrence w₁ = s.occurrence w₁) := by
  cases f <;> try simp [State.clearField]
  rename_i f
  cases f <;> simp [State.slot, State.occurrence]

end Sys2Proof.Machine
end

