-- ==== Sys2Proof/Laws/Effects.lean ====
section
/-! SUPPORT. What a management command, a command and a step can do, said once: every next state is one
of the cases below, each with the conditions under which it comes about. -/

namespace Sys2Proof.Machine

/-- What a management command leaves of everything but the management frame. -/
inductive Performed (s : State) : State → Prop
  | unchanged : Performed s s
  | stored (f : Field) (v : Word32) (writable : f.writable = true)
      (unlocked : f.isStaged = true → s.commitPending = false)
      (inRange : f.accepts v.toNat = true) : Performed s (s.storeField f v)
  | cleared (f : Field) (clearable : f.clearable = true) : Performed s (s.clearField f)
  | committed (clear : s.commitPending = false) (valid : s.staged.fault = none) :
      Performed s { s with commitPending := true }
  | cancelled : Performed s { s with commitPending := false }
  | enabled (p : PortId) (mode : (s.port p).mode = .draining ∨ (s.port p).mode = .halted) :
      Performed s (s.withMode p .active)
  | drained (p : PortId) (mode : (s.port p).mode = .active) :
      Performed s ((s.withMode p .draining).drainCheck p)
  | flushed (p : PortId) (mode : (s.port p).mode = .active ∨ (s.port p).mode = .draining) :
      Performed s (s.flushQueue p)
  | countersCleared (p : PortId) :
      Performed s (s.withPort p fun r => { r with counters := Counters.zero })
  | popped (r : EventRecord) (rest : List EventRecord) (queue : s.events = r :: rest) :
      Performed s { s with events := rest, holder := some r }
  | restarted (up : s.link = .up) : Performed s (s.takeLinkDown .restart .restarting)
  | restarting (down : s.link = .down) : Performed s { s with link := .restarting }
  | reset : Performed s (s.resetBlocks s.frame)

theorem State.mgmtPort_performed (s : State) (index : Byte) (act : PortId → Option State)
    (h : ∀ p t, act p = some t → Performed s t) : Performed s (s.mgmtPort index act).1 := by
  unfold State.mgmtPort
  split
  · exact .unchanged
  · split
    · exact h _ _ (by assumption)
    · exact .unchanged

theorem State.enablePort_performed (s t : State) (p : PortId) (h : s.enablePort p = some t) :
    Performed s t := by
  unfold State.enablePort at h
  split at h <;> simp only [Option.some.injEq, reduceCtorEq] at h <;> subst h
  · exact .unchanged
  · exact .enabled p (.inl (by assumption))
  · exact .enabled p (.inr (by assumption))

theorem State.drainPort_performed (s t : State) (p : PortId) (h : s.drainPort p = some t) :
    Performed s t := by
  unfold State.drainPort at h
  split at h <;> simp only [Option.some.injEq, reduceCtorEq] at h <;> subst h
  · exact .drained p (by assumption)
  · exact .unchanged
  · exact .unchanged

theorem State.flushPort_performed (s t : State) (p : PortId) (h : s.flushPort p = some t) :
    Performed s t := by
  unfold State.flushPort at h
  split at h <;> simp only [Option.some.injEq, reduceCtorEq] at h <;> subst h
  · exact .flushed p (.inl (by assumption))
  · exact .flushed p (.inr (by assumption))
  · exact .unchanged

theorem State.mgmtWrite_performed (s : State) (object index field : Byte) (v : Word32) :
    Performed s (s.mgmtWrite object index field v).1 := by
  unfold State.mgmtWrite onField
  split
  · exact .unchanged
  · split
    · exact .unchanged
    · unfold State.writeTo
      split
      · split
        · exact .unchanged
        · split
          · rename_i unlocked inRange
            exact .stored _ v (by assumption) (by simpa using unlocked) inRange
          · exact .unchanged
      · exact .unchanged

theorem State.mgmtReadAndClear_performed (s : State) (object index field : Byte) :
    Performed s (s.mgmtReadAndClear object index field).1 := by
  unfold State.mgmtReadAndClear onField
  split
  · exact .unchanged
  · split
    · exact .unchanged
    · dsimp only
      split
      · exact .cleared _ (by assumption)
      · exact .unchanged

/-- A READ changes nothing (R161). -/
theorem State.mgmtRead_unchanged (s : State) (object index field : Byte) :
    (s.mgmtRead object index field).1 = s := by
  unfold State.mgmtRead onField
  split
  · rfl
  · split <;> rfl

/-- Every management command does one of the things `Performed` lists. -/
theorem State.perform_performed (s : State) (m : MgmtCommand) : Performed s (s.perform m).1 := by
  cases m with
  | noOperation => exact .unchanged
  | read o i f =>
    simp only [State.perform, State.mgmtRead_unchanged]
    exact .unchanged
  | write o i f v => exact s.mgmtWrite_performed o i f v
  | readAndClear o i f => exact s.mgmtReadAndClear_performed o i f
  | commit =>
    simp only [State.perform, State.mgmtCommit]
    split
    · exact .unchanged
    · split
      · exact .unchanged
      · rename_i clear _ valid
        exact .committed (by simpa using clear) valid
  | cancel => exact .cancelled
  | portEnable i => exact s.mgmtPort_performed i _ fun p t => s.enablePort_performed t p
  | portDrain i => exact s.mgmtPort_performed i _ fun p t => s.drainPort_performed t p
  | portFlush i => exact s.mgmtPort_performed i _ fun p t => s.flushPort_performed t p
  | clearCounters i =>
    simp only [State.perform, State.mgmtClearCounters]
    split
    · exact .unchanged
    · exact .countersCleared _
  | popEvent =>
    simp only [State.perform, State.mgmtPopEvent]
    split
    · exact .unchanged
    · exact .popped _ _ (by assumption)
  | linkRestart =>
    simp only [State.perform, State.mgmtLinkRestart, State.restartLink]
    split
    · exact .restarted (by assumption)
    · exact .restarting (by assumption)
    · exact .unchanged
  | softReset => exact .reset
  | unknown code => exact .unchanged

/-- What a command or a memory clock leaves of everything but the queue of waiting commands. -/
inductive Effect (s : State) : State → Prop
  | unchanged : Effect s s
  | clocked (running : s.deviceReset = false) (inside : s.clocks + 1 < s.active.prescaler.toNat) :
      Effect s { s with clocks := s.clocks + 1 }
  | tickEnded (running : s.deviceReset = false) :
      Effect s (s.advanceTick.expireAll s.expiryOrder)
  | arrived (p : PortId) (r : Request) (takes : s.takes p r = true) : Effect s (s.arrive p r)
  | decided (may : s.mayDecide = true) (none : s.decision = none) : Effect s s.takeDecision
  | granted (p : PortId) (course : Course) (may : s.mayDecide = true)
      (named : s.decision = some (p, course)) : Effect s (s.takeDecision.grant p course)
  | itemTaken (i : SlotId) (c : Command) (share : Option (List WriteBeat)) (taken : Nat)
      (mark : Bool) (running : s.deviceReset = false)
      (slot : s.slot i = .sending c share taken mark) (more : taken + 1 < commandItems share) :
      Effect s (s.withSlot i (.sending c share (taken + 1) mark))
  | transferEnded (i : SlotId) (c : Command) (share : Option (List WriteBeat)) (taken : Nat)
      (mark : Bool) (running : s.deviceReset = false)
      (slot : s.slot i = .sending c share taken mark) (last : taken + 1 = commandItems share) :
      Effect s (s.withSlot i (s.transferred c mark)).takeDecision
  | headerTaken (i : SlotId) (kind : Kind) (status : MemStatus) (running : s.deviceReset = false)
      (up : s.link = .up) :
      Effect s ((s.interrupt.classifyHeader i kind status).decideAfter s)
  | strayBeat (last : Bool) (running : s.deviceReset = false) (up : s.link = .up)
      (channel : s.completion = .awaitHeader) : Effect s (s.strayBeat last)
  | dataBeat (i : SlotId) (c : Command) (d : Deadline) (beats : List BeatData) (data : BeatData)
      (last : Bool) (running : s.deviceReset = false) (up : s.link = .up)
      (channel : s.completion = .data i) (slot : s.slot i = .receiving c d beats) :
      Effect s (s.dataBeat i c d beats data last)
  | discardEnded (i : SlotId) (running : s.deviceReset = false) (up : s.link = .up)
      (channel : s.completion = .discard (some i)) :
      Effect s (s.endCompletion i).takeDecision
  | runEnded (running : s.deviceReset = false) (up : s.link = .up)
      (channel : s.completion = .discard none) : Effect s (s.withChannel .awaitHeader)
  | expired (i : SlotId) (running : s.deviceReset = false) (ends : (s.slot i).expires = true) :
      Effect s (s.reachTickEnd.expireSlot i)
  | readyLow (idle : s.deviceReset = true ∨ s.link ≠ .up) : Effect s { s with linkReady := false }
  | linkDown (running : s.deviceReset = false) (up : s.link = .up) :
      Effect s ({ s with linkReady := false }.takeLinkDown .readyFell .down)
  | readyHigh (low : s.linkReady = false) (idle : s.deviceReset = true ∨ s.link = .up) :
      Effect s { s with linkReady := true }
  | linkUp (low : s.linkReady = false) (running : s.deviceReset = false) (down : s.link ≠ .up) :
      Effect s s.takeLinkUp
  | replyItemTaken (p : PortId) (running : s.deviceReset = false)
      (more : 2 ≤ (s.port p).itemsLeft) : Effect s (s.withPort p Port.takeItem)
  | deliveryEnded (p : PortId) (running : s.deviceReset = false)
      (last : (s.port p).itemsLeft = 1) : Effect s (s.endDelivery p)
  | resetLevel (p : PortId) (level : Bool)
      (idle : s.deviceReset = true ∨ ((s.port p).mode.code = 3 ↔ level = true)) :
      Effect s (s.withResetInput p level)
  | portReset (p : PortId) (x : ReturnState) (report : Bool) (running : s.deviceReset = false)
      (mode : ((s.port p).mode = .active ∧ x = .active ∧ report = false)
        ∨ ((s.port p).mode = .draining ∧ x = .halted ∧ report = true)
        ∨ ((s.port p).mode = .halted ∧ x = .halted ∧ report = false)) :
      Effect s (s.resetPort p x report)
  | portReleased (p : PortId) (x : ReturnState) (report : Bool) (running : s.deviceReset = false)
      (mode : (s.port p).mode = .inReset x report) : Effect s (s.releasePort p x report)
  | resetAsserted (running : s.deviceReset = false) :
      Effect s { s with
        deviceReset := true, link := .restarting, events := [], dropCount := 0, holder := none,
        enables := tabulate fun _ => true, frame := .unselected }
  | resetReleased (standing : s.deviceReset = true) : Effect s (s.resetBlocks .unselected)
  | managed (t : State) (r : Result) (running : s.deviceReset = false) (performed : Performed s t) :
      Effect s (answered (t, r))
  | framed (x : MgmtFrame) (running : s.deviceReset = false) : Effect s { s with frame := x }

theorem State.take_effect (s : State) (m : MgmtCommand) : Effect s (s.take m) := by
  unfold State.take
  split
  · exact .unchanged
  · rename_i running
    exact .managed _ (s.perform m).2 (by simpa using running) (s.perform_performed m)

theorem State.tickEnd_effect (s : State) : Effect s s.tickEnd := by
  unfold State.tickEnd
  split
  · exact .unchanged
  · rename_i running
    exact .tickEnded (by simpa using running)

theorem State.memoryClock_effect (s : State) : Effect s s.memoryClock := by
  unfold State.memoryClock
  split
  · exact .unchanged
  · rename_i running
    split
    · exact .clocked (by simpa using running) (by assumption)
    · exact s.tickEnd_effect

theorem State.linkReadyFalls_effect (s : State) : Effect s s.linkReadyFalls := by
  unfold State.linkReadyFalls
  dsimp only
  split
  · exact .readyLow (.inl (by assumption))
  · rename_i running
    split
    · exact .linkDown (by simpa using running) (by assumption)
    · rename_i h
      exact .readyLow (.inr (by rw [show s.link = .down from h]; decide))
    · rename_i h
      exact .readyLow (.inr (by rw [show s.link = .restarting from h]; decide))

theorem State.linkReadyRises_effect (s : State) : Effect s s.linkReadyRises := by
  unfold State.linkReadyRises
  split
  · exact .unchanged
  · rename_i low
    have low' : s.linkReady = false := by simpa using low
    split
    · exact .readyHigh low' (.inl (by assumption))
    · rename_i running
      split
      · exact .readyHigh low' (.inr (by assumption))
      · rename_i h
        exact .linkUp low' (by simpa using running) (by rw [h]; decide)
      · rename_i h
        exact .linkUp low' (by simpa using running) (by rw [h]; decide)

theorem execCommandItemTaken_effect {s t : State} (h : execCommandItemTaken s = .next t) :
    Effect s t := by
  unfold execCommandItemTaken at h
  (repeat' split at h) <;> simp only [Host.Outcome.next.injEq] at h <;> subst h <;>
    first
    | exact .unchanged
    | exact .itemTaken _ _ _ _ _ (by simp_all) (by assumption) (by assumption)

theorem execTransferEnd_effect {s t : State} (h : execTransferEnd s = .next t) : Effect s t := by
  unfold execTransferEnd at h
  (repeat' split at h) <;> simp only [Host.Outcome.next.injEq] at h <;> subst h <;>
    first
    | exact .unchanged
    | exact .transferEnded _ _ _ _ _ (by simp_all) (by assumption) (by assumption)

theorem execReadBeat_effect {s t : State} {data : BeatData} {last : Bool}
    (h : execReadBeat data last s = .next t) : Effect s t := by
  unfold execReadBeat at h
  split at h
  · simp only [Host.Outcome.next.injEq] at h; subst h; exact .unchanged
  · rename_i on
    have running : s.deviceReset = false := by simp_all
    have up : s.link = .up := by simp_all [State.linkIsUp]
    (repeat' split at h) <;> simp only [Host.Outcome.next.injEq] at h <;> subst h <;>
      first
      | exact .unchanged
      | exact .strayBeat _ running up (by assumption)
      | exact .dataBeat _ _ _ _ _ _ running up (by assumption) (by assumption)
      | exact .discardEnded _ running up (by assumption)
      | exact .runEnded running up (by assumption)

theorem execDeadlineExpiry_effect {s t : State} {i : SlotId} (h : execDeadlineExpiry i s = .next t) :
    Effect s t := by
  unfold execDeadlineExpiry at h
  (repeat' split at h) <;> simp only [Host.Outcome.next.injEq] at h <;> subst h <;>
    first
    | exact .unchanged
    | exact .expired i (by simp_all) (by assumption)

theorem execSpiClockRisingEdge_effect {s t : State} {bit : Bool}
    (h : execSpiClockRisingEdge bit s = .next t) : Effect s t := by
  unfold execSpiClockRisingEdge at h
  split at h
  · simp only [Host.Outcome.next.injEq] at h; subst h; exact .unchanged
  · rename_i on
    have running : s.deviceReset = false := by simpa using on
    split at h
    · simp only [Host.Outcome.next.injEq] at h; subst h; exact .unchanged
    · simp only [Host.Outcome.next.injEq] at h
      subst h
      unfold State.sampleBit
      split
      · exact .framed _ running
      · exact s.take_effect _
    · split at h <;> simp only [Host.Outcome.next.injEq] at h <;> subst h <;>
        exact .framed _ running
    · simp only [Host.Outcome.next.injEq] at h; subst h; exact .unchanged

/-- Every command does one of the things `Effect` lists. -/
theorem exec_effect {c : Instr} {s t : State} (h : exec c s = .next t) : Effect s t := by
  cases c with
  | tickEnd => cases h; exact s.tickEnd_effect
  | arrival p r =>
    simp only [exec, execArrival] at h
    split at h <;> cases h
    · exact .arrived p r (by assumption)
    · exact .unchanged
  | grant =>
    simp only [exec, execGrant] at h
    split at h
    · split at h <;> cases h
      · exact .granted _ _ (by assumption) (by assumption)
      · exact .decided (by assumption) (by assumption)
    · cases h; exact .unchanged
  | commandItemTaken => exact execCommandItemTaken_effect h
  | transferEnd => exact execTransferEnd_effect h
  | completionHeader i kind status =>
    simp only [exec, execCompletionHeader] at h
    split at h <;> cases h
    · exact .unchanged
    · exact .headerTaken i kind status (by simp_all) (by simp_all [State.linkIsUp])
  | readBeat data last => exact execReadBeat_effect h
  | deadlineExpiry i => exact execDeadlineExpiry_effect h
  | linkDown => cases h; exact s.linkReadyFalls_effect
  | linkUp => cases h; exact s.linkReadyRises_effect
  | replyItemTaken p =>
    simp only [exec, execReplyItemTaken] at h
    (repeat' split at h) <;> cases h
    · exact .unchanged
    · exact .replyItemTaken p (by simp_all) (by assumption)
    · exact .unchanged
  | deliveryEnd p =>
    simp only [exec, execDeliveryEnd] at h
    (repeat' split at h) <;> cases h
    · exact .unchanged
    · exact .deliveryEnded p (by simp_all) (by assumption)
    · exact .unchanged
  | portResetAssert p =>
    simp only [exec, execPortResetAssert] at h
    (repeat' split at h) <;> cases h <;>
      first
      | exact .resetLevel p true (by simp_all [PortMode.code])
      | exact .portReset p _ _ (by simp_all) (by simp_all)
  | portResetRelease p =>
    simp only [exec, execPortResetRelease] at h
    (repeat' split at h) <;> cases h <;>
      first
      | exact .resetLevel p false (by simp_all [PortMode.code])
      | exact .portReleased p _ _ (by simp_all) (by assumption)
  | deviceResetAssert =>
    simp only [exec, execDeviceResetAssert] at h
    split at h <;> cases h
    · exact .unchanged
    · exact .resetAsserted (by simp_all)
  | deviceResetRelease =>
    simp only [exec, execDeviceResetRelease] at h
    split at h <;> cases h
    · exact .resetReleased (by assumption)
    · exact .unchanged
  | noOperation => cases h; exact s.take_effect _
  | read o i f => cases h; exact s.take_effect _
  | write o i f v => cases h; exact s.take_effect _
  | readAndClear o i f => cases h; exact s.take_effect _
  | commit => cases h; exact s.take_effect _
  | cancel => cases h; exact s.take_effect _
  | portEnable i => cases h; exact s.take_effect _
  | portDrain i => cases h; exact s.take_effect _
  | portFlush i => cases h; exact s.take_effect _
  | clearCounters i => cases h; exact s.take_effect _
  | popEvent => cases h; exact s.take_effect _
  | linkRestart => cases h; exact s.take_effect _
  | softReset => cases h; exact s.take_effect _
  | unknownCommand code => cases h; exact s.take_effect _
  | chipSelectFall =>
    simp only [exec, execChipSelectFall] at h
    split at h <;> cases h
    · exact .unchanged
    · exact .framed _ (by simp_all)
  | chipSelectRise =>
    simp only [exec, execChipSelectRise] at h
    split at h <;> cases h
    · exact .unchanged
    · exact .framed _ (by simp_all)
  | spiClockRisingEdge bit => exact execSpiClockRisingEdge_effect h
  | linkReadyFallsWhileRestarting => cases h; exact s.linkReadyFalls_effect

/-- A step does one of the things `Effect` lists, on the state with its front command gone. -/
theorem step_effect {s t : State} (h : step s = .next t) :
    Effect s t ∨ ∃ c cs, s.pending = c :: cs ∧ Effect (s.withPending cs) t := by
  unfold step at h
  split at h
  · cases h; exact .inl s.memoryClock_effect
  · exact .inr ⟨_, _, by assumption, exec_effect h⟩

end Sys2Proof.Machine
end

