-- ==== Sys2Proof/Laws/Replies.lean ====
section
/-! SUPPORT. Reply lists: what replacing the first entry that matches does, what the beginning of a
delivery does, and that the sequences of a list are distinct. -/

namespace Sys2Proof

variable {α β : Type} (p : α → Bool) (f : α → α)

/-- Replacing the first match changes that place only. -/
theorem updateFirst_split (before : List α) (x : α) (after : List α)
    (none : ∀ y ∈ before, p y = false) (found : p x = true) :
    updateFirst p f (before ++ x :: after) = before ++ f x :: after := by
  induction before with
  | nil => simp [updateFirst, found]
  | cons y ys ih =>
    have hy := none y (by simp)
    have hys := ih fun z hz => none z (by simp [hz])
    simp only [List.cons_append, updateFirst, hy, Bool.false_eq_true, if_false, hys]

/-- With no match the list stays. -/
theorem updateFirst_of_none (l : List α) (none : ∀ y ∈ l, p y = false) : updateFirst p f l = l := by
  induction l with
  | nil => rfl
  | cons y ys ih =>
    have hy := none y (by simp)
    simp only [updateFirst, hy, Bool.false_eq_true, if_false, ih fun z hz => none z (by simp [hz])]

/-- A list has a first match, or none. -/
theorem firstMatch_or_none (l : List α) :
    (∀ y ∈ l, p y = false) ∨
      ∃ before x after, l = before ++ x :: after ∧ (∀ y ∈ before, p y = false) ∧ p x = true := by
  induction l with
  | nil => exact .inl (by simp)
  | cons y ys ih =>
    cases hy : p y with
    | true => exact .inr ⟨[], y, ys, rfl, by simp, hy⟩
    | false =>
      rcases ih with h | ⟨b, x, a, rfl, hb, hx⟩
      · exact .inl (by simpa [hy] using h)
      · exact .inr ⟨y :: b, x, a, rfl, by simpa [hy] using hb, hx⟩

@[simp] theorem updateFirst_length (l : List α) : (updateFirst p f l).length = l.length := by
  induction l with
  | nil => rfl
  | cons y ys ih =>
    simp only [updateFirst]
    split <;> simp [ih]

/-- A projection that the replacement keeps. -/
theorem updateFirst_map (g : α → β) (keeps : ∀ x, g (f x) = g x) (l : List α) :
    (updateFirst p f l).map g = l.map g := by
  induction l with
  | nil => rfl
  | cons y ys ih =>
    simp only [updateFirst]
    split <;> simp [keeps, ih]

/-- What is in the list after a replacement. -/
theorem mem_updateFirst {l : List α} {x : α} (h : x ∈ updateFirst p f l) :
    x ∈ l ∨ ∃ y ∈ l, p y = true ∧ x = f y := by
  rcases firstMatch_or_none p l with hn | ⟨b, y, a, rfl, hb, hy⟩
  · rw [updateFirst_of_none p f l hn] at h
    exact .inl h
  · rw [updateFirst_split p f b y a hb hy] at h
    simp only [List.mem_append, List.mem_cons] at h ⊢
    rcases h with h | rfl | h
    · exact .inl (.inl h)
    · exact .inr ⟨y, .inr (.inl rfl), hy, rfl⟩
    · exact .inl (.inr (.inr h))

/-- What does not match stays. -/
theorem mem_updateFirst_of_mem {l : List α} {x : α} (h : x ∈ l) (hx : p x = false) :
    x ∈ updateFirst p f l := by
  rcases firstMatch_or_none p l with hn | ⟨b, y, a, rfl, hb, hy⟩
  · rwa [updateFirst_of_none p f l hn]
  · rw [updateFirst_split p f b y a hb hy]
    simp only [List.mem_append, List.mem_cons] at h ⊢
    rcases h with h | rfl | h
    · exact .inl h
    · rw [hx] at hy; cases hy
    · exact .inr (.inr h)

end Sys2Proof

namespace Sys2Proof.Machine

@[simp] theorem beginDelivery_nil : beginDelivery [] = [] := rfl

@[simp] theorem beginDelivery_length (l : List ReplyEntry) : (beginDelivery l).length = l.length := by
  cases l with
  | nil => rfl
  | cons e es => cases h : e.state <;> simp [beginDelivery, h]

@[simp] theorem beginDelivery_eq_nil (l : List ReplyEntry) : beginDelivery l = [] ↔ l = [] := by
  rw [← List.length_eq_zero_iff, beginDelivery_length, List.length_eq_zero_iff]

@[simp] theorem beginDelivery_sequences (l : List ReplyEntry) :
    (beginDelivery l).map ReplyEntry.sequence = l.map ReplyEntry.sequence := by
  cases l with
  | nil => rfl
  | cons e es => cases h : e.state <;> simp [beginDelivery, h]

@[simp] theorem beginDelivery_tail (l : List ReplyEntry) : (beginDelivery l).tail = l.tail := by
  cases l with
  | nil => rfl
  | cons e es => cases h : e.state <;> simp [beginDelivery, h]

/-- The beginning of a delivery keeps the data a list holds. -/
@[simp] theorem beginDelivery_data (l : List ReplyEntry) :
    (beginDelivery l).map (fun e => e.state.data) = l.map fun e => e.state.data := by
  cases l with
  | nil => rfl
  | cons e es => cases h : e.state <;> simp [beginDelivery, h, EntryState.data]

/-- The beginning of a delivery turns a READY entry into a DELIVERING one and nothing else. -/
theorem mem_beginDelivery {l : List ReplyEntry} {e : ReplyEntry} (h : e ∈ beginDelivery l) :
    e ∈ l ∨ e.state.isDelivering = true := by
  cases l with
  | nil => exact .inl h
  | cons x xs =>
    cases hx : x.state with
    | ready status data =>
      simp only [beginDelivery, hx, List.mem_cons] at h
      rcases h with rfl | h
      · exact .inr rfl
      · exact .inl (by simp [h])
    | waiting => exact .inl (by simpa [beginDelivery, hx] using h)
    | pending i => exact .inl (by simpa [beginDelivery, hx] using h)
    | delivering status data taken => exact .inl (by simpa [beginDelivery, hx] using h)

/-- An entry that is not READY is left alone by the beginning of a delivery. -/
theorem mem_beginDelivery_of_mem {l : List ReplyEntry} {e : ReplyEntry} (h : e ∈ l)
    (he : e.state.isReady = false) : e ∈ beginDelivery l := by
  cases l with
  | nil => exact h
  | cons x xs =>
    cases hx : x.state with
    | ready status data =>
      simp only [beginDelivery, hx, List.mem_cons] at h ⊢
      rcases h with rfl | h
      · simp [hx, EntryState.isReady] at he
      · exact .inr h
    | waiting => simpa [beginDelivery, hx] using h
    | pending i => simpa [beginDelivery, hx] using h
    | delivering status data taken => simpa [beginDelivery, hx] using h

/-- The WAITING entries are left alone by the beginning of a delivery. -/
@[simp] theorem beginDelivery_waiting (l : List ReplyEntry) :
    (beginDelivery l).filter (fun e => decide (e.state = .waiting))
      = l.filter fun e => decide (e.state = .waiting) := by
  cases l with
  | nil => rfl
  | cons e es => cases h : e.state <;> simp [beginDelivery, h]

/-- After the beginning of a delivery the head is not READY, and only the head is DELIVERING if that
was so of the list's tail (R97). -/
theorem beginDelivery_sound {r : Port} {l : List ReplyEntry} (hr : r.replies = beginDelivery l)
    (tail : ∀ e ∈ l.tail, e.state.isDelivering = false) : r.DeliverySound := by
  refine ⟨?_, by rw [hr, beginDelivery_tail]; exact tail⟩
  rw [hr]
  cases l with
  | nil => simp
  | cons e es => cases h : e.state <;> simp [beginDelivery, h, EntryState.isReady]

/-- The sequences of a list within its capacity are distinct (R88, R91). -/
theorem Port.sequences_nodup {r : Port} (run : r.SequencesRun)
    (capacity : r.replies.length ≤ Config.replyCapacity) :
    (r.replies.map ReplyEntry.sequence).Nodup := by
  rw [show r.replies.map ReplyEntry.sequence = _ from run]
  refine List.Nodup.map_on ?_ List.nodup_range
  intro a ha b hb hab
  have ha' := List.mem_range.1 ha
  have hb' := List.mem_range.1 hb
  have capacity' : r.replies.length ≤ 32 := capacity
  have eq := congrArg BitVec.toNat hab
  simp only [BitVec.toNat_sub, BitVec.toNat_ofNat] at eq
  omega

end Sys2Proof.Machine
end

