-- ==== Sys2Proof/Laws/Operations.lean ====
section
/-! SUPPORT. One lemma for each shared operation that says once what it can answer: the searches over
slots and rules, the bids, the decision, the spent mark, the drain check, orphaning and settling. -/

namespace Sys2Proof.Machine

/-! ### Searches -/

/-- The first place of a row that passes a test. -/
theorem find_first {n : Nat} {p : Fin n → Bool} {i : Fin n} (h : p i = true)
    (least : ∀ j < i, p j = false) : (List.finRange n).find? p = some i := by
  rw [List.find?_eq_some_iff_getElem]
  refine ⟨h, i.val, by simp, by simp, ?_⟩
  intro j hj
  simpa using least ⟨j, by omega⟩ hj

/-- The lowest-numbered FREE slot is found. -/
theorem State.lowestFree_eq_some {s : State} {i : SlotId} (h : s.slot i = .free)
    (least : ∀ j < i, s.slot j ≠ .free) : s.lowestFree = some i := by
  refine find_first (by simp [h, Slot.isFree]) fun j hj => ?_
  have := least j hj
  revert this
  cases s.slot j <;> simp [Slot.isFree]

/-- What `lowestFree` finds is FREE. -/
theorem State.slot_of_lowestFree {s : State} {i : SlotId} (h : s.lowestFree = some i) :
    s.slot i = .free := by
  have := List.find?_some h
  revert this
  cases s.slot i <;> simp [Slot.isFree]

/-- The one slot in SENDING is found. -/
theorem State.sendingSlot_eq_some {s : State} {i : SlotId} {c : Command}
    {share : Option (List WriteBeat)} {taken : Nat} {mark : Bool}
    (h : s.SendingFrom i c share taken mark) : s.sendingSlot = some i := by
  refine find_first (by simp [h.1, Slot.isSending]) fun j hj => ?_
  by_contra hc
  exact absurd (h.2 j (by simpa using hc)) (ne_of_lt hj)

/-- The decision of the first rule that covers a request. -/
theorem State.verdict_of_first {s : State} {p : PortId} {kind : Kind} {block : Block} {k : RuleId}
    (h : s.FirstCovering p kind block k) :
    s.verdict p kind block
      = { refused := (look s.rules k).action.refuses
          reportedBy := if (look s.rules k).action.reports then some k else none } := by
  have found : s.decidingRule p kind block = some k := find_first h.1 h.2
  simp [State.verdict, found]

/-- The decision of the default action. -/
theorem State.verdict_of_none {s : State} {p : PortId} {kind : Kind} {block : Block}
    (h : s.NoneCovering p kind block) :
    s.verdict p kind block
      = { refused := decide (s.defaultAction = .refuse), reportedBy := none } := by
  have found : s.decidingRule p kind block = none := by
    rw [State.decidingRule, List.find?_eq_none]
    intro k _
    simp [h k]
  simp [State.verdict, found]

/-- A head that passes the conflict check may share its block with reads only when it is a read. -/
theorem State.kinds_of_conflict {s : State} {q : QueuedRequest}
    (h : s.conflict q.block q.kind = false) (i : SlotId) {c : Command}
    (hc : (s.slot i).command? = some c) (same : c.block = q.block) :
    c.kind = .read ∧ q.kind = .read := by
  rw [State.conflict, List.any_eq_false] at h
  have := h (s.slot i) (by simp [State.slot, look])
  simpa [Slot.conflicts, hc, same] using this

/-! ### The bids and the decision -/

/-- A grantable head is the head of its queue, and passes the tests of Table 14. -/
theorem State.queue_of_grantableHead {s : State} {p : PortId} {q : QueuedRequest}
    (h : s.grantableHead p = some q) :
    ∃ rest, (s.port p).queue = q :: rest ∧ s.passes p q = true := by
  rw [State.grantableHead] at h
  split at h
  · simp at h
  · rename_i q' rest hq
    split at h
    · simp only [Option.some.injEq] at h
      subst h
      exact ⟨rest, hq, by assumption⟩
    · simp at h

/-- What the fold over ports keeps: the best bid so far is the bid of its port. -/
theorem State.foldl_betterBid {s : State} (ports : List PortId) (best : Option (PortId × Nat))
    (known : ∀ x ∈ best, s.enteringBid x.1 = some x.2) :
    ∀ x ∈ ports.foldl s.betterBid best, s.enteringBid x.1 = some x.2 := by
  induction ports generalizing best with
  | nil => exact known
  | cons p ports ih =>
    refine ih _ fun y hy => ?_
    unfold State.betterBid at hy
    split at hy
    · exact known y hy
    · rename_i v hv
      simp only [Option.mem_def, Option.some.injEq] at hy
      subst hy
      exact hv
    · rename_i v q w hv
      split at hy
      · simp only [Option.mem_def, Option.some.injEq] at hy
        subst hy
        exact hv
      · simp only [Option.mem_def, Option.some.injEq] at hy
        subst hy
        exact known _ rfl

/-- A port that wins by its bid has a grantable head. -/
theorem State.head_of_bidWinner {s : State} {p : PortId} (h : s.bidWinner = some p) :
    ∃ q, s.grantableHead p = some q := by
  rw [State.bidWinner, Option.map_eq_some_iff] at h
  obtain ⟨x, hx, rfl⟩ := h
  have hb := State.foldl_betterBid _ none (by simp) x hx
  rw [State.enteringBid, State.bid] at hb
  cases hg : s.grantableHead x.1 with
  | none => simp [hg] at hb
  | some q => exact ⟨q, rfl⟩

/-- A port that a decision names has a grantable head, whatever its course. -/
theorem State.head_of_decision {s : State} {p : PortId} {course : Course}
    (h : s.decision = some (p, course)) : ∃ q, s.grantableHead p = some q := by
  rw [State.decision] at h
  split at h
  · simp at h
  · split at h
    · rename_i p' hw
      simp only [Option.some.injEq, Prod.mk.injEq] at h
      obtain ⟨rfl, -⟩ := h
      rw [State.windowGrant] at hw
      split at hw
      · rename_i q hq
        split at hw
        · simp at hw
        · simp only [Option.some.injEq] at hw
          rw [hw] at hq
          exact ⟨q, hq⟩
      · simp at hw
    · split at h
      · simp only [Option.map_eq_some_iff, Prod.mk.injEq, ↓existsAndEq, true_and] at h
        exact State.head_of_bidWinner h.1
      · simp at h
  · simp only [Option.map_eq_some_iff, Prod.mk.injEq, ↓existsAndEq, true_and] at h
    exact State.head_of_bidWinner h.1

/-! ### The spent mark, the drain check, orphaning and settling -/

/-- The spent mark, once per occurrence and only while it is open, or nothing. -/
theorem State.markSpent_cases (s : State) (w : WindowId) :
    (s.markSpent w = s ∧ ((s.occurrence w).isOpen = false ∨ (s.occurrence w).spent = true))
    ∨ ((s.occurrence w).isOpen = true ∧ (s.occurrence w).spent = false
        ∧ s.markSpent w = (s.withOccurrence w fun o => { o with spent := true }).record
            (.budgetSpent (s.active.window w).owner w)) := by
  unfold State.markSpent
  cases (s.occurrence w).isOpen <;> cases (s.occurrence w).spent <;> simp

/-- A decision taken: nothing, or the spent mark of the window whose budget it finds short. -/
theorem State.takeDecision_cases (s : State) :
    (s.takeDecision = s ∧ (s.mayDecide = false ∨ s.shortWindow = none))
    ∨ ∃ w, s.mayDecide = true ∧ s.shortWindow = some w ∧ s.takeDecision = s.markSpent w := by
  unfold State.takeDecision
  cases s.mayDecide <;> cases s.shortWindow <;> simp

/-- The drain check: the halt with its record, or nothing. -/
theorem State.drainCheck_cases (s : State) (p : PortId) :
    s.drainCheck p = s
    ∨ ((s.port p).mode = .draining ∧ (s.port p).queue = [] ∧ (s.port p).replies = []
        ∧ s.drainCheck p = (s.withPort p fun r => { r with mode := .halted }).record
            (.portHalted p .drained)) := by
  unfold State.drainCheck
  split <;> simp_all

/-- Orphaning of a slot in ISSUED. -/
theorem State.orphan_of_issued {s : State} {i : SlotId} {c : Command} {d : Deadline}
    (h : s.slot i = .issued c d) : s.orphan i = s.withSlot i (.orphaned c) := by
  simp [State.orphan, h]

/-- Orphaning of a slot in RECEIVING, and what it makes of the completion channel. -/
theorem State.orphan_of_receiving {s : State} {i : SlotId} {c : Command} {d : Deadline}
    {beats : List BeatData} (h : s.slot i = .receiving c d beats) :
    s.orphan i = { (s.withSlot i (.orphaned c)) with
      completion := if s.completion = .data i then .discard (some i) else s.completion } := by
  simp [State.orphan, h]

/-- The settling of the entry a slot links to, where it stands in the list. -/
theorem State.settleSlot_of_found {s t : State} {i : SlotId} {c : Command}
    {before after : List ReplyEntry} {e : ReplyEntry} (status : ReplyStatus)
    (data : List BeatData) (notPosted : c.posted = false) (h : s.LinkFound i c before e after)
    (same : t.port c.port = s.port c.port) :
    t.settleSlot i c status data
      = t.withReplies c.port (beginDelivery (before ++ e.become (.ready status data) :: after)) := by
  obtain ⟨h1, h2, h3, h4⟩ := h
  simp only [State.settleSlot, notPosted, State.settle, State.withPort, State.withReplies, same, h1]
  rw [updateFirst_split]
  · rfl
  · intro x hx
    simp [linkedToSlot, h4 x hx]
  · simp [linkedToSlot, h2, h3]

/-- A posted write settles nothing. -/
theorem State.settleSlot_of_posted {s : State} (i : SlotId) {c : Command} (status : ReplyStatus)
    (data : List BeatData) (posted : c.posted = true) : s.settleSlot i c status data = s := by
  simp [State.settleSlot, posted]

/-! ### The expiries of a tick end -/

@[simp] theorem State.expireAll_nil (s : State) : s.expireAll [] = s := rfl

@[simp] theorem State.expireAll_cons (s : State) (i : SlotId) (is : List SlotId) :
    s.expireAll (i :: is) = (s.expireSlot i).expireAll is := rfl

/-- The expiry of a slot: the slot is in ISSUED or RECEIVING and expires, or nothing. -/
theorem State.expireSlot_cases (s : State) (i : SlotId) :
    s.expireSlot i = s
    ∨ (∃ c d, s.slot i = .issued c d ∧ s.expireSlot i = s.expire i c .issued)
    ∨ ∃ c d beats, s.slot i = .receiving c d beats ∧ s.expireSlot i = s.expire i c .receiving := by
  unfold State.expireSlot
  split <;> simp_all

/-- What every expiry keeps, the expiries of a tick end keep. -/
theorem State.expireAll_keeps {P : State → Prop} (keeps : ∀ s i, P s → P (s.expireSlot i))
    (order : List SlotId) (s : State) (h : P s) : P (s.expireAll order) := by
  induction order generalizing s with
  | nil => exact h
  | cons i is ih => exact ih _ (keeps s i h)

/-- The slot holds a count of 1, in ISSUED or RECEIVING. -/
theorem Slot.expires_iff (x : Slot) :
    x.expires = true ↔
      (∃ c, x = .issued c (.ticks 1)) ∨ ∃ c beats, x = .receiving c (.ticks 1) beats := by
  cases x with
  | issued c d => cases d <;> simp [Slot.expires, Deadline.ends]
  | receiving c d beats => cases d <;> simp [Slot.expires, Deadline.ends]
  | free => simp [Slot.expires]
  | sending c share taken mark => simp [Slot.expires]
  | orphaned c => simp [Slot.expires]

theorem insertByRank_perm (rank : SlotId → Nat) (i : SlotId) (l : List SlotId) :
    (insertByRank rank i l).Perm (i :: l) := by
  induction l with
  | nil => exact .refl _
  | cons j js ih =>
    rw [insertByRank]
    split
    · exact .refl _
    · exact (ih.cons j).trans (.swap i j js)

/-- Sorting by rank only reorders. -/
theorem sortByRank_perm (rank : SlotId → Nat) (l : List SlotId) : (sortByRank rank l).Perm l := by
  induction l with
  | nil => exact .refl _
  | cons i is ih => exact (insertByRank_perm rank i _).trans (ih.cons i)

/-- The order of the expiries holds each slot whose count is 1, once. -/
theorem State.expiryOrder_expiring (s : State) : s.ExpiringSlots s.expiryOrder := by
  have perm := sortByRank_perm (Config.expiryRank s.draws)
    ((List.finRange 32).filter fun i => (s.slot i).expires)
  refine ⟨perm.nodup_iff.2 ((List.nodup_finRange 32).filter _), fun i => ?_⟩
  rw [State.expiryOrder, perm.mem_iff]
  simp [Slot.expires_iff]

/-! ### The entry of a grant -/

/-- The entry a granted request links to becomes PENDING where it stands. -/
theorem QueuedRequest.granted_of_found {s : State} {p : PortId} {q : QueuedRequest}
    {before after : List ReplyEntry} {e : ReplyEntry} (i : SlotId) (notPosted : q.posted = false)
    (h : s.QueueLinkFound p q before e after) :
    q.granted i (s.port p).replies = before ++ e.become (.pending i) :: after := by
  obtain ⟨h1, h2, h3, h4⟩ := h
  rw [QueuedRequest.granted, notPosted, h1]
  simp only [Bool.false_eq_true, if_false]
  rw [updateFirst_split]
  · rfl
  · intro x hx
    simp [linkedToQueue, h4 x hx]
  · simp [linkedToQueue, h2, h3]

end Sys2Proof.Machine
end

