-- ==== Sys2Proof/Laws/PerInstr.lean ====
section
/-! SUPPORT. Per command: a management command whose row is that command is as well-formed as the row.
A row that is no management command is the row of none. -/

/-- A management command and its row are well-formed together. -/
theorem Sys2Proof.MgmtCommand.toInstr_wellFormed (m : Sys2Proof.MgmtCommand) :
    m.toInstr.wellFormed = m.wellFormed := by cases m <;> rfl

namespace Sys2Proof.Laws.MgmtRow

/-- A management command whose row this is can be carried by a frame when the row can be offered. -/
def Statement (i : Instr) : Prop :=
  i.wellFormed = true → ∀ m : MgmtCommand, m.toInstr = i → m.wellFormed = true

/-- It holds of every row: a row is exactly as well-formed as its management command. -/
theorem of_row (i : Instr) : Statement i := fun h m e => by
  rw [← MgmtCommand.toInstr_wellFormed, e]; exact h

theorem tickEnd : Statement .tickEnd := of_row _

theorem arrival (a : PortId) (b : Request) : Statement (.arrival a b) := of_row _

theorem grant : Statement .grant := of_row _

theorem commandItemTaken : Statement .commandItemTaken := of_row _

theorem transferEnd : Statement .transferEnd := of_row _

theorem completionHeader (a : SlotId) (b : Kind) (c : MemStatus) :
    Statement (.completionHeader a b c) := of_row _

theorem readBeat (a : BeatData) (b : Bool) : Statement (.readBeat a b) := of_row _

theorem deadlineExpiry (a : SlotId) : Statement (.deadlineExpiry a) := of_row _

theorem linkDown : Statement .linkDown := of_row _

theorem linkUp : Statement .linkUp := of_row _

theorem replyItemTaken (a : PortId) : Statement (.replyItemTaken a) := of_row _

theorem deliveryEnd (a : PortId) : Statement (.deliveryEnd a) := of_row _

theorem portResetAssert (a : PortId) : Statement (.portResetAssert a) := of_row _

theorem portResetRelease (a : PortId) : Statement (.portResetRelease a) := of_row _

theorem deviceResetAssert : Statement .deviceResetAssert := of_row _

theorem deviceResetRelease : Statement .deviceResetRelease := of_row _

theorem noOperation : Statement .noOperation := of_row _

theorem read (a : Byte) (b : Byte) (c : Byte) : Statement (.read a b c) := of_row _

theorem write (a : Byte) (b : Byte) (c : Byte) (d : Word32) : Statement (.write a b c d) := of_row _

theorem readAndClear (a : Byte) (b : Byte) (c : Byte) : Statement (.readAndClear a b c) := of_row _

theorem commit : Statement .commit := of_row _

theorem cancel : Statement .cancel := of_row _

theorem portEnable (a : Byte) : Statement (.portEnable a) := of_row _

theorem portDrain (a : Byte) : Statement (.portDrain a) := of_row _

theorem portFlush (a : Byte) : Statement (.portFlush a) := of_row _

theorem clearCounters (a : Byte) : Statement (.clearCounters a) := of_row _

theorem popEvent : Statement .popEvent := of_row _

theorem linkRestart : Statement .linkRestart := of_row _

theorem softReset : Statement .softReset := of_row _

theorem unknownCommand (a : Byte) : Statement (.unknownCommand a) := of_row _

theorem chipSelectFall : Statement .chipSelectFall := of_row _

theorem chipSelectRise : Statement .chipSelectRise := of_row _

theorem spiClockRisingEdge (a : Bool) : Statement (.spiClockRisingEdge a) := of_row _

theorem linkReadyFallsWhileRestarting : Statement .linkReadyFallsWhileRestarting := of_row _
end Sys2Proof.Laws.MgmtRow
end

