-- ==== Sys2Proof/Tests/Slice0.lean ====
section
/-! SUPPORT. Tests on small states: ill-formed terms, frames written out from Tables 52 and 53, one step
of each command against the worked examples of spec/ (the section is named at each test), and for
each statement a state and operands that meet its hypotheses. -/

namespace Sys2Proof.Tests

open Sys2Proof Sys2Proof.Machine

/-! ### Small states -/

/-- The state a command leaves. -/
def after (c : Instr) (s : State) : State :=
  match exec c s with
  | .next t => t
  | .fault _ => s
  | .refused _ => s

/-- The occasions of the event queue. -/
def occasions (s : State) : List Occasion := s.events.map EventRecord.occasion

/-- The state of the entries of port `p`, head first. -/
def entries (s : State) (p : PortId) : List (Sequence × EntryState) :=
  (s.port p).replies.map fun e => (e.sequence, e.state)

/-- The result in the management frame. -/
def result (s : State) : Option Result :=
  match s.frame with
  | .answer _ r => some r
  | .unselected => none
  | .command _ => none
  | .overrun => none

/-- The reset state with the link up. -/
def up : State := { State.reset with link := .up, linkReady := true }

/-- The schedule of section 2.8. -/
def schedule28 : Schedule :=
  { period := 1000, prescaler := 4, count := 2
    windows := put (put Schedule.default.windows 0
      { owner := 1, start := 100, length := 200, guard := 20, budget := 24, lend := false })
      1 { owner := 2, start := 500, length := 150, guard := 50, budget := 0, lend := true } }

/-- The link up under the schedule of section 2.8, at a frame tick. -/
def at28 (tick : Nat) : State :=
  { up with active := schedule28, staged := schedule28, frameTick := tick }

/-- Window 0 of section 2.8 open, with these remaining and charged beats. -/
def in28 (tick remaining charged : Nat) (spent : Bool) : State :=
  (at28 tick).withOccurrence 0 fun _ =>
    { isOpen := true, remaining := remaining, unlimited := false, spent := spent,
      charged := charged, lent := 0 }

/-- An address by block and beat offset. -/
def addressOf (block offset : Nat) : BeatAddress := BitVec.ofNat 37 (block * 8 + offset)

/-- A READ request. -/
def readOf (block offset : Nat) (length : Fin 16) (tag : Tag) : Request :=
  { address := addressOf block offset, tag := tag, body := .read length }

/-- A WRITE request of `n` beats. -/
def writeOf (block offset n : Nat) (tag : Tag) : Request :=
  { address := addressOf block offset, tag := tag
    body := .write (List.replicate n { data := 0, mask := 0xFF }) }

/-- A queued request. -/
def queuedOf (kind : Kind) (block : Block) (length : Nat) (sequence : Sequence) (posted : Bool) :
    QueuedRequest :=
  { kind := kind, block := block, offset := 0, length := length, arrivalTick := 0,
    posted := posted, sequence := sequence
    share := match kind with
      | .read => none
      | .write => some (List.replicate length { data := 0, mask := 0xFF }) }

/-- A command in a slot. -/
def commandOf (p : PortId) (kind : Kind) (block : Block) (length : Nat) (sequence : Sequence)
    (posted : Bool) : Command :=
  { port := p, kind := kind, block := block, offset := 0, length := length, sequence := sequence,
    posted := posted }

/-- A reply entry of a read. -/
def entryOf (sequence : Sequence) (state : EntryState) : ReplyEntry :=
  { sequence := sequence, tag := 5, kind := .read, state := state }

/-- The state with a queue and a reply list in port `p`. -/
def holding (s : State) (p : PortId) (queue : List QueuedRequest) (replies : List ReplyEntry)
    (next : Sequence) : State :=
  s.withPort p fun r => { r with queue := queue, replies := replies, nextSequence := next }

/-! ### Ill-formed terms -/

/-- Table 10: a record carries at most 15 data beats. -/
theorem test_wellFormed_refuses_16_beats :
    (Instr.arrival 0 (writeOf 0 0 16 0)).wellFormed = false := by decide

/-- Table 53: 00h names NO_OPERATION, so it is no unknown command. -/
theorem test_wellFormed_refuses_a_named_code :
    (Instr.unknownCommand 0x00).wellFormed = false
    ∧ (MgmtCommand.unknown 0x50).wellFormed = false := by decide

theorem test_wellFormed_takes_the_limits :
    (Instr.arrival 0 (writeOf 0 0 15 0)).wellFormed = true
    ∧ (Instr.unknownCommand 0x04).wellFormed = true := by decide

/-! ### Frames, byte by byte (Tables 52 and 53) -/

/-- READ of EVENT_HOLD, index 0, presence (section 11.7). -/
theorem test_decode_read : decodeFrame 0x0109000200000000 = .read 0x09 0x00 0x02 := by decide

/-- WRITE of STAGED 1, guard: the value is sent most significant byte first. -/
theorem test_decode_write :
    decodeFrame 0x0203010B000000C8 = .write 0x03 0x01 0x0B 200 := by decide

theorem test_decode_port_flush : decodeFrame 0x22FF03FFFFFFFFFF = .portFlush 3 := by decide

theorem test_decode_soft_reset : decodeFrame 0x5000000000000000 = .softReset := by decide

theorem test_decode_unknown : decodeFrame 0x0400000000000000 = .unknown 0x04 := by decide

/-- No row of the table gives bits. -/
theorem test_table_words_spell_nothing : decodeTableWord 64 0x0109 = none := by decide

/-! ### The frame timer and the schedule -/

/-- Section 2.8, frame tick 100: window 0 opens with its budget of 24. -/
theorem test_tickEnd_opens_window :
    (after .tickEnd (at28 99)).occurrence 0
      = { isOpen := true, remaining := 24, unlimited := false, spent := false, charged := 0,
          lent := 0 } := by decide

/-- Section 2.8, frame tick 300: usage record 0 becomes charged 22, lent 0, spent. -/
theorem test_tickEnd_closes_window :
    look (after .tickEnd (in28 299 2 22 true)).usage 0
      = { charged := 22, lent := 0, spent := true } := by decide

/-- Section 12.3, step 5: the frame start switches, and records the new frame number and tick 0. -/
theorem test_tickEnd_switches_schedule :
    let s := after .tickEnd { (at28 999) with
      commitPending := true, frameNumber := 77
      staged := { schedule28 with prescaler := 8 } }
    s.active.prescaler = 8 ∧ s.commitPending = false
    ∧ s.events = [{ frameNumber := 78, frameTick := 0, occasion := .scheduleSwitched }] := by
  decide

/-- Section 2.8: the positions at the ends of the guards and windows. -/
theorem test_positions :
    [79, 80, 99, 100, 299, 300, 449, 450, 500, 649, 650].map schedule28.position
      = [.unreserved, .guard 0, .guard 0, .window 0, .window 0, .unreserved, .unreserved,
         .guard 1, .window 1, .window 1, .unreserved] := by decide

/-- Section 2.9, steps 1 to 3: what COMMIT answers. -/
theorem test_commit_reasons :
    let edited (period : BitVec 16) (guard : BitVec 8) : State :=
      { (at28 0) with staged := { schedule28 with
          period := period
          windows := put schedule28.windows 1 { look schedule28.windows 1 with guard := guard } } }
    result (after .commit (edited 600 250)) = some ⟨.windowPastPeriod, 1⟩
    ∧ result (after .commit (edited 1000 250)) = some ⟨.guardOverlap, 1⟩
    ∧ result (after .commit (edited 1000 200)) = some ⟨.done, 0⟩
    ∧ (after .commit (edited 1000 200)).commitPending = true := by decide

/-- Section 2.9, steps 4 and 5: a pending commit locks the staged copy. -/
theorem test_commit_locks :
    let s := { (at28 0) with commitPending := true }
    result (after .commit s) = some ⟨.stagedLocked, 0⟩
    ∧ result (after (.write 0x03 1 0x0B 100) s) = some ⟨.stagedLocked, 50⟩ := by decide

theorem test_cancel : (after .cancel { up with commitPending := true }).commitPending = false := by
  decide

/-! ### Arrivals -/

/-- Section 7.7: the rule table. -/
def rules77 : State :=
  let rule (a b : Block) (mask : BitVec 4) (kinds : RuleKinds) (action : RuleAction) : Rule :=
    { enabled := true, firstBlock := a, lastBlock := b, portMask := mask, kinds := kinds,
      action := action }
  { up with
    rules := put (put (put (put (put (put up.rules 0 (rule 0 0xFFF 15 .write .refuseReport))
      1 (rule 0x1000 0x1FFF 2 .both .pass)) 2 (rule 0x1000 0x1FFF 15 .both .refuse))
      3 (rule 0x2000 0x2FFF 8 .read .passReport))
      4 { rule 0 0x3FFFFFFFF 15 .both .refuse with enabled := false })
      5 (rule 0x3000 0x2FFF 15 .both .refuse) }

/-- Section 7.7, arrival 1: refused by rule 0, counted, reported, and delivered at once. -/
theorem test_arrival_refused :
    let s := after (.arrival 2 (writeOf 0x800 0 8 0)) (holding rules77 2 [] [] 50)
    entries s 2 = [(50, .delivering .refused [] 0)] ∧ (s.port 2).counters.refused = 1
    ∧ occasions s = [.ruleHit 2 0x800 50 .write true 0] := by decide

/-- Section 7.7, arrivals 3, 4, 5 and 6: the decisions. -/
theorem test_arrival_decisions :
    rules77.classify 2 (readOf 0x800 6 4 0) = .malformed
    ∧ rules77.classify 1 (writeOf 0x1234 0 2 0) = .passed none
    ∧ rules77.classify 0 (readOf 0x1234 2 2 0) = .refused none
    ∧ rules77.classify 3 (readOf 0x2100 0 4 0) = .passed (some 3) := by decide

/-! ### Grants -/

/-- Section 2.8, frame tick 104: an 8-beat write of port 1 leaves 16 beats of the budget. -/
def window28 : State := holding (in28 104 24 0 false) 1 [queuedOf .write 9 8 0 true] [] 1

theorem test_grant_by_window :
    let s := after .grant window28
    (s.occurrence 0).remaining = 16 ∧ (s.occurrence 0).charged = 8
    ∧ (s.port 1).counters.windowBeats = 8 ∧ (s.slot 0).isSending = true := by decide

/-- Section 2.8, frame tick 140: an 8-beat read finds 2 beats left, and lend is no. -/
def short28 : State := holding (in28 140 2 22 false) 1 [queuedOf .read 9 8 0 false] [] 1

theorem test_grant_short_budget :
    let s := after .grant short28
    (s.occurrence 0).spent = true ∧ (s.port 1).queue.length = 1
    ∧ occasions s = [.budgetSpent 1 0] := by decide

/-- Section 4.8, frame tick 40: the bids are 2317 for port 1 and 67 for port 3, and port 1 wins. -/
theorem test_bids :
    bidValue true 2 3 1 = 2317 ∧ bidValue false 0 16 3 = 67 ∧ bidValue false 2 3 0 = 268 := by
  decide

/-! ### The memory port -/

/-- Section 12.1: a READ of 8 beats of block 7200h, sequence 5, of port 1, in slot 2. -/
def read121 (slot : Slot) (channel : CompletionChannel) : State :=
  { ((holding up 1 [] [entryOf 5 (.pending 2)] 6).withSlot 2 slot) with
    completion := channel, deadline := 300 }

/-- The command of section 12.1. -/
def command121 : Command := commandOf 1 .read 0x7200 8 5 false

/-- A WRITE of 2 beats: its header and then its beats, each with its mask (R68). -/
def sending (taken : Nat) (posted mark : Bool) : State :=
  up.withSlot 3 (.sending (commandOf 2 .write 0x900 2 40 posted)
    (some [{ data := 7, mask := 0x0F }, { data := 8, mask := 0xFF }]) taken mark)

theorem test_command_items :
    (sending 0 true false).commandOffered = some (.header 3 .write (addressOf 0x900 0) 2)
    ∧ (after .commandItemTaken (sending 0 true false)).commandOffered
      = some (.beat { data := 7, mask := 0x0F }) := by decide

/-- Section 12.1, step 1: the slot is ISSUED with the deadline of 300. -/
theorem test_transferEnd_issues :
    (after .transferEnd (read121 (.sending command121 none 0 false) .awaitHeader)).slot 2
      = .issued command121 (.ticks 300) := by decide

/-- Section 12.2: at its transfer end a marked slot is ORPHANED. -/
theorem test_transferEnd_orphans :
    ((after .transferEnd (sending 2 true true)).slot 3).isOrphaned = true := by decide

/-- Section 12.1, step 3: the header begins the data, with the deadline count it had. -/
theorem test_header_begins_read :
    (after (.completionHeader 2 .read .good)
      (read121 (.issued command121 (.ticks 120)) .awaitHeader)).slot 2
      = .receiving command121 (.ticks 120) [] := by decide

/-- Section 12.2: a late FAULT is reported only in its LATE_COMPLETION. -/
theorem test_header_late_fault :
    let s := after (.completionHeader 2 .read .fault)
      (read121 (.orphaned command121) .awaitHeader)
    s.slot 2 = .free ∧ occasions s = [.lateCompletion 1 2 0x7200 5 .fault] := by decide

/-- Section 12.1, "had the fifth beat been taken before": the read ends good with 8 beats. -/
def lastBeat : State :=
  read121 (.receiving command121 (.ticks 1) [1, 2, 3, 4, 5, 6, 7]) (.data 2)

theorem test_beat_ends_read :
    entries (after (.readBeat 8 true) lastBeat) 1
      = [(5, .delivering .ok [1, 2, 3, 4, 5, 6, 7, 8] 0)] := by decide

/-- Section 12.1, step 7: the last beat of a late read frees the slot. -/
theorem test_beat_ends_late_read :
    let s := after (.readBeat 8 true) (read121 (.orphaned command121) (.discard (some 2)))
    s.slot 2 = .free ∧ occasions s = [.lateCompletion 1 2 0x7200 5 .good] := by decide

/-- Section 12.1, before step 5: a read in RECEIVING whose deadline count is 1. -/
def ending : State := read121 (.receiving command121 (.ticks 1) [1, 2, 3]) (.data 2)

/-- Section 12.1, step 5: the expiry at the tick end, and section 8.6: none at the tick end before. -/
theorem test_tickEnd_expires :
    let s := after .tickEnd ending
    s.slot 2 = .orphaned command121 ∧ s.completion = .discard (some 2)
    ∧ entries s 1 = [(5, .delivering .timeout [] 0)] ∧ (s.port 1).counters.timeouts = 1
    ∧ (after .tickEnd (ending.withSlot 2 (.issued command121 (.ticks 2)))).slot 2
      = .issued command121 (.ticks 1) := by
  decide

/-- R145: an expiry taken before its tick end records the frame tick before it. -/
theorem test_expiry :
    let s := after (.deadlineExpiry 2) ending
    s.slot 2 = .orphaned command121 ∧ s.events.map EventRecord.frameTick = [0]
    ∧ (after .tickEnd ending).events.map EventRecord.frameTick = [1] := by decide

/-! ### The link -/

/-- Section 10.7, step 2: two posted writes in ISSUED, and an event queue of 30 records. -/
def nearFull : State :=
  { ((up.withSlot 6 (.issued (commandOf 1 .write 1 8 44 true) .absent)).withSlot 11
      (.issued (commandOf 1 .write 2 8 45 true) .absent)) with
    dropCount := 3
    events := List.replicate 30
      { frameNumber := 0, frameTick := 0, occasion := .scheduleSwitched } }

theorem test_link_down_near_full :
    let s := after .linkDown nearFull
    s.events.length = 32 ∧ s.dropCount = 4 ∧ s.slot 6 = .free ∧ s.slot 11 = .free
    ∧ (occasions s).drop 30 = [.linkDown .readyFell, .postedWriteFailed 1 (some 6) 1 44 .linkDown] := by
  decide

theorem test_link_up :
    let s := after .linkUp { State.reset with link := .down }
    s.link = .up ∧ occasions s = [.linkUp] := by decide

/-- R122: a fall of link ready while RESTARTING changes no state of the link. -/
theorem test_ready_falls_while_restarting :
    (after .linkReadyFallsWhileRestarting
      { State.reset with linkReady := true }).link = .restarting := by decide

/-- R125: a LINK_RESTART while UP takes the link down with cause RESTART. -/
theorem test_link_restart :
    let s := after .linkRestart up
    s.link = .restarting ∧ occasions s = [.linkDown .restart] ∧ result s = some ⟨.done, 2⟩ := by
  decide

/-! ### Replies -/

/-- Section 6.10, step 7: sequence 20 is delivering 4 beats, 21 and 22 are READY behind it. -/
def replies610 (taken : Nat) : State :=
  holding up 2 []
    [entryOf 20 (.delivering .ok [1, 2, 3, 4] taken), entryOf 21 (.ready .ok []),
     entryOf 22 (.ready .malformed [])] 23

theorem test_reply_items :
    (replies610 0).replyOffered 2 = some (.header 5 .read .ok)
    ∧ (after (.replyItemTaken 2) (replies610 3)).replyOffered 2 = some (.beat 4 true) := by decide

/-- Section 6.10, step 8: the delivery end begins sequence 21 at once. -/
theorem test_delivery_end :
    entries (after (.deliveryEnd 2) (replies610 4)) 2
      = [(21, .delivering .ok [] 0), (22, .ready .malformed [])] := by decide

/-! ### Port control -/

/-- Section 12.2: port 2 before its reset, with slots 0, 1 and 3. -/
def port122 : State :=
  { ((((holding up 2 [queuedOf .write 0x3A0 4 41 true, queuedOf .read 7 2 42 false]
      [entryOf 39 (.pending 1), entryOf 42 .waiting] 43).withSlot 0
        (.issued (commandOf 2 .write 8 2 38 false) .absent)).withSlot 1
        (.receiving (commandOf 2 .read 9 4 39 false) .absent [1])).withSlot 3
        (.sending (commandOf 2 .write 10 6 40 false) none 0 false)) with
    completion := .data 1 }

theorem test_port_reset_assert :
    let s := after (.portResetAssert 2) port122
    (s.port 2).mode = .inReset .active false ∧ (s.port 2).replies = [] ∧ s.orphanedCount = 2
    ∧ s.completion = .discard (some 1)
    ∧ occasions s = [.postedWriteFailed 2 none 0x3A0 41 .portReset] := by decide

theorem test_port_reset_release :
    let s := after (.portResetRelease 2)
      (up.withPort 2 fun r => { r with mode := .inReset .halted true, nextSequence := 43 })
    (s.port 2).mode = .halted ∧ (s.port 2).nextSequence = 0
    ∧ occasions s = [.portHalted 2 .resetRelease] := by decide

/-- Section 9.7, step 3: the flush of port 3. -/
def port97 : State :=
  (holding up 3 [queuedOf .write 0x900 2 71 true, queuedOf .read 7 1 72 false]
    [entryOf 68 (.delivering .ok [1] 1), entryOf 69 (.pending 5), entryOf 71 (.ready .ok []),
     entryOf 72 .waiting] 73).withPort 3 fun r => { r with mode := .draining }

theorem test_port_flush :
    let s := after (.portFlush 3) port97
    entries s 3 = [(68, .delivering .ok [1] 1), (69, .pending 5), (71, .ready .ok []),
      (72, .ready .aborted [])]
    ∧ (s.port 3).queue = [] ∧ occasions s = [.postedWriteFailed 3 none 0x900 71 .flush]
    ∧ result s = some ⟨.done, 1⟩ := by decide

/-- R164: a PORT_DRAIN that halts the port at once answers the code of HALTED. -/
theorem test_port_drain_halts :
    let s := after (.portDrain 0) up
    result s = some ⟨.done, 2⟩ ∧ occasions s = [.portHalted 0 .drained] := by decide

theorem test_port_enable :
    ((after (.portEnable 3) port97).port 3).mode = .active
    ∧ result (after (.portEnable 4) port97) = some ⟨.badObject, 0⟩ := by decide

/-! ### Device reset -/

/-- R154: the event unit is cleared at the assertion, and the losses are recorded at the release. -/
theorem test_device_reset :
    let s := after .deviceResetAssert nearFull
    s.events = [] ∧ s.linkRestartOutput = true ∧ s.slot 6 = nearFull.slot 6
    ∧ occasions (after .deviceResetRelease s)
      = [.postedWriteFailed 1 (some 6) 1 44 .deviceReset,
         .postedWriteFailed 1 (some 11) 2 45 .deviceReset] := by decide

/-- R167: a soft reset acts when it is taken, and the link waits for link ready to rise. -/
theorem test_soft_reset :
    let s := after .softReset { nearFull with threshold := 9 }
    s.threshold = 0 ∧ s.link = .restarting ∧ s.events.length = 2
    ∧ result s = some ⟨.done, 0⟩ := by decide

/-! ### The management port -/

/-- Section 11.7: the older record, and the younger. -/
def records117 : State :=
  { State.reset with
    events :=
      [{ frameNumber := 311, frameTick := 530
         occasion := .timeout 2 9 0x100000400 17 .receiving },
       { frameNumber := 312, frameTick := 0, occasion := .linkUp }] }

theorem test_pop_event :
    let s := after .popEvent records117
    result s = some ⟨.done, 1⟩ ∧ s.holder = records117.events.head?
    ∧ result (after .popEvent State.reset) = some ⟨.empty, 0⟩ := by decide

/-- Section 11.7, frames 2 to 7. -/
theorem test_read_event_hold :
    let s := after .popEvent records117
    [(0, 2), (0, 1), (0, 8), (0, 9), (0, 7), (2, 1)].map
        (fun x => result (after (.read 0x09 x.1 x.2) s))
      = [some ⟨.done, 0x3B⟩, some ⟨.done, 4⟩, some ⟨.done, 1⟩, some ⟨.done, 0x400⟩,
         some ⟨.done, 0⟩, some ⟨.badObject, 0⟩] := by decide

/-- R160: the checks of a WRITE, in their order, and a value that is stored. -/
theorem test_write :
    result (after (.write 0x02 0 0x01 4) up) = some ⟨.done, 4⟩
    ∧ result (after (.write 0x02 0 0x01 5) up) = some ⟨.badValue, 1⟩
    ∧ result (after (.write 0x00 0 0x03 5) up) = some ⟨.readOnly, 4⟩
    ∧ result (after (.write 0x02 0 0x05 5) up) = some ⟨.badField, 0⟩ := by decide

/-- Section 10.7, step 6: the drop count is answered and cleared. -/
theorem test_read_and_clear :
    let s := after (.readAndClear 0x08 0 0x01) { nearFull with dropCount := 5 }
    result s = some ⟨.done, 5⟩ ∧ s.dropCount = 0 := by decide

/-- Section 10.7, step 7. -/
theorem test_clear_counters :
    let s := after (.clearCounters 1) (up.withPort 1 fun r =>
      { r with counters := { windowBeats := 96, bidBeats := 200, refused := 6, timeouts := 3 } })
    (s.port 1).counters = Counters.zero ∧ result s = some ⟨.done, 0⟩ := by decide

theorem test_no_operation : result (after .noOperation up) = some ⟨.done, 0⟩ := by decide

theorem test_unknown_command :
    result (after (.unknownCommand 0x04) up) = some ⟨.notAllowed, 0⟩ := by decide

/-- The 63 bits of a NO_OPERATION frame but its last. -/
def bits63 : State := { up with frame := .command (List.replicate 63 false) }

/-- R157: the 64th rising edge takes the command, and the 104th ends the answer. -/
theorem test_spi_edges :
    result (after (.spiClockRisingEdge false) bits63) = some ⟨.done, 0⟩
    ∧ (after (.spiClockRisingEdge false)
        { up with frame := .answer 103 ⟨.done, 0⟩ }).frame = .overrun := by decide

/-- R158: a rise before the 64th bit discards the command. -/
theorem test_chip_select :
    (after .chipSelectRise bits63).frame = .unselected
    ∧ (after .chipSelectFall bits63).frame = .command [] := by decide

/-- R159: the result follows the command, byte 8 first and each byte most significant bit first. -/
theorem test_data_out :
    { up with frame := .answer 64 ⟨.windowPastPeriod, 1⟩ }.dataOut = some false
    ∧ { up with frame := .answer 67 ⟨.windowPastPeriod, 1⟩ }.dataOut = some true
    ∧ { up with frame := .answer 103 ⟨.windowPastPeriod, 1⟩ }.dataOut = some true := by decide

/-! ### A state and operands for the hypotheses of each statement

Each theorem meets the hypotheses of the statement it is named after, clause by clause, at the ends of
the ranges the clauses have. A statement that is missing here has no hypotheses but that the part is
not in device reset, which `up` meets. -/

theorem witness_StepTakesTheFrontCommand :
    { up with pending := [.grant, .commit] }.pending = .grant :: [.commit]
    ∧ (State.reset.pending = [] ∧ ({ up with deviceReset := true } : State).deviceReset = true)
    ∧ ({ up with clocks := 6 } : State).clocks + 1 < up.active.prescaler.toNat
    ∧ up.active.prescaler.toNat ≤ ({ up with clocks := 7 } : State).clocks + 1 := by decide

/-- The part in device reset, as its assertion leaves it. -/
def inReset : State := after .deviceResetAssert nearFull

theorem witness_DeviceResetStandsStill :
    inReset.deviceReset = true ∧ inReset.LinkSound
    ∧ (∀ c ∈ [Instr.tickEnd, .grant, .softReset, .deviceResetAssert],
        c ∉ [Instr.linkUp, .linkDown, .linkReadyFallsWhileRestarting, .deviceResetRelease]
        ∧ (∀ p, c ≠ .portResetAssert p) ∧ ∀ p, c ≠ .portResetRelease p) := by
  refine ⟨by decide, by decide, by decide⟩

theorem witness_ResetsSetEveryBlock :
    up.deviceReset = false ∧ inReset.deviceReset = true := by decide

theorem witness_TickEndAdvancesTheFrame :
    (at28 998).deviceReset = false ∧ (at28 998).frameTick + 1 < (at28 998).active.period.toNat
    ∧ ((at28 99).active.inUse 0 = true ∧ (at28 99).active.opensAt 0 = (at28 99).frameTick + 1)
    ∧ ((at28 299).active.closesAt 0 = (at28 299).frameTick + 1
        ∧ (at28 299).active.opensAt 0 ≠ (at28 299).frameTick + 1)
    ∧ (at28 299).active.closesAt 1 ≠ (at28 299).frameTick + 1
    ∧ (at28 299).active.inUse 7 = false := by decide

/-- A schedule whose windows open at 0 and close at the period. -/
def wholeFrame : Schedule :=
  { schedule28 with
    windows := put (put Schedule.default.windows 0
      { owner := 1, start := 0, length := 500, guard := 0, budget := 24, lend := false })
      1 { owner := 2, start := 500, length := 500, guard := 0, budget := 0, lend := true } }

theorem witness_TickEndStartsAFrame :
    let s := { (at28 999) with active := wholeFrame, staged := schedule28 }
    s.deviceReset = false ∧ s.active.period.toNat ≤ s.frameTick + 1
    ∧ s.active.closesAt 1 = s.active.period.toNat ∧ s.active.opensAt 0 = 0
    ∧ s.commitPending = false ∧ { s with commitPending := true }.commitPending = true
    ∧ schedule28.opensAt 0 ≠ 0 := by decide

theorem witness_TickEndCountsDeadlines :
    let s := ((((((up.withSlot 0 (.issued command121 (.ticks 2))).withSlot 1
      (.issued command121 (.ticks 1))).withSlot 2
      (.receiving command121 (.ticks 2) [1])).withSlot 3
      (.receiving command121 (.ticks 1) [1])).withSlot 4
      (.issued command121 .absent)).withSlot 5 (.receiving command121 .absent [1]))
    s.slot 0 = .issued command121 (.ticks (0 + 2)) ∧ s.slot 1 = .issued command121 (.ticks 1)
    ∧ s.slot 2 = .receiving command121 (.ticks (0 + 2)) [1]
    ∧ s.slot 3 = .receiving command121 (.ticks 1) [1] ∧ s.slot 4 = .issued command121 .absent
    ∧ s.slot 5 = .receiving command121 .absent [1] ∧ (s.slot 31).isFree = true := by decide

theorem witness_PositionsAreDisjoint :
    schedule28.Valid ∧ schedule28.LengthsStored
    ∧ schedule28.inWindow 100 0 = true ∧ schedule28.inWindow 299 0 = true
    ∧ schedule28.inGuard 80 0 = true ∧ schedule28.inGuard 99 0 = true
    ∧ ∀ v, schedule28.inWindow 79 v = false ∧ schedule28.inGuard 79 v = false := by
  refine ⟨by decide, by decide, by decide, by decide, by decide, by decide, by decide⟩

/-- Each row of Table 7 can be the one that fails, and none need fail. -/
theorem witness_ChecksFollowTableSeven :
    let windows (v w : Window) : Schedule :=
      { schedule28 with windows := put (put Schedule.default.windows 0 v) 1 w }
    let window (start length : BitVec 16) (guard : BitVec 8) : Window :=
      { owner := 0, start := start, length := length, guard := guard, budget := 0, lend := false }
    { schedule28 with period := 63 }.fault = some ⟨.badPeriod, 0⟩
    ∧ { schedule28 with prescaler := 3 }.fault = some ⟨.badPrescaler, 0⟩
    ∧ { schedule28 with count := 9 }.fault = some ⟨.badCount, 0⟩
    ∧ (windows (window 100 200 0) (window 500 501 0)).fault = some ⟨.windowPastPeriod, 1⟩
    ∧ (windows (window 100 200 0) (window 100 200 0)).fault = some ⟨.windowOrder, 1⟩
    ∧ (windows (window 100 200 0) (window 310 200 11)).fault = some ⟨.guardOverlap, 1⟩
    ∧ (windows (window 10 200 11) (window 500 200 0)).fault = some ⟨.guardOverlap, 0⟩
    ∧ (windows (window 11 200 11) (window 500 500 200)).fault = none := by decide

theorem witness_CommitAndCancel :
    up.deviceReset = false ∧ { up with commitPending := true }.commitPending = true
    ∧ (up.commitPending = false ∧ up.staged.Valid)
    ∧ ¬ { schedule28 with period := 63 }.Valid := by
  refine ⟨by decide, by decide, by decide, by decide⟩

theorem witness_TimerSoundKept :
    (at28 999).TimerSound ∧ ∃ t, step (at28 999) = .next t := by
  refine ⟨⟨by decide, by decide, by decide, by decide, by decide, by decide⟩, _, rfl⟩

theorem witness_OccurrencesSoundKept :
    (in28 104 24 0 false).TimerSound ∧ (in28 104 24 0 false).OccurrencesSound
    ∧ (in28 299 2 22 true).OccurrencesSound ∧ ∃ t, step (in28 104 24 0 false) = .next t := by
  refine ⟨⟨by decide, by decide, by decide, by decide, by decide, by decide⟩, by decide, by decide,
    _, rfl⟩

/-! #### Arrivals -/

/-- A reply list of 32 entries. -/
def fullList : List ReplyEntry := List.replicate 32 (entryOf 0 .waiting)

/-- A queue of 16 writes of 8 beats. -/
def fullQueue : List QueuedRequest := List.replicate 16 (queuedOf .write 1 8 0 false)

theorem witness_HeldRequestLeavesNoTrace :
    (port97.port 3).mode ≠ .active
    ∧ 32 ≤ ((holding up 0 [] fullList 32).port 0).replies.length
    ∧ (let s := holding up 0 fullQueue [] 0
       let r := readOf 9 0 1 0
       r.malformed = false ∧ (s.verdict 0 r.kind r.block).refused = false
       ∧ 16 ≤ (s.port 0).queue.length)
    ∧ (let s := holding (holding up 1 fullQueue [] 0) 2 fullQueue [] 0
       let r := writeOf 9 0 1 0
       r.malformed = false ∧ (s.verdict 0 r.kind r.block).refused = false
       ∧ s.writeStoreFree = 0 ∧ s.writeStoreFree < shareBeats r.share) := by
  refine ⟨by decide, by decide, by decide, by decide⟩

/-- A port with 31 reply entries and 15 queued requests. -/
def nearlyFull : State :=
  holding up 0 (List.replicate 15 (queuedOf .write 1 8 0 false))
    (List.replicate 31 (entryOf 0 .waiting)) 31

theorem witness_MalformedRequestIsAnswered :
    nearlyFull.deviceReset = false ∧ (nearlyFull.port 0).mode = .active
    ∧ (nearlyFull.port 0).replies.length < 32
    ∧ (writeOf 9 4 5 0).malformed = true ∧ (readOf 9 0 0 0).malformed = true
    ∧ (readOf 9 0 9 0).malformed = true ∧ (readOf 9 0 8 0).malformed = false := by decide

theorem witness_RefusedRequestIsAnswered :
    rules77.deviceReset = false ∧ (rules77.port 0).mode = .active
    ∧ (rules77.port 0).replies.length < 32 ∧ (readOf 0x1FFF 2 2 0).malformed = false
    ∧ (rules77.FirstCovering 0 .read 0x1FFF 2 ∧ (look rules77.rules 2).action = .refuse)
    ∧ (rules77.FirstCovering 0 .write 0xFFF 0 ∧ (look rules77.rules 0).action = .refuseReport)
    ∧ (let s : State := { rules77 with defaultAction := .refuse }
       s.NoneCovering 0 .read 0x3000 ∧ s.defaultAction = .refuse) := by
  refine ⟨by decide, by decide, by decide, by decide, by decide, by decide, by decide⟩

theorem witness_PassedRequestIsQueued :
    let r := writeOf 0x1000 0 8 0
    let s := nearlyFull
    (s.deviceReset = false ∧ (s.port 0).mode = .active ∧ (s.port 0).replies.length < 32
      ∧ r.malformed = false ∧ (s.port 0).queue.length < 16
      ∧ shareBeats r.share ≤ s.writeStoreFree ∧ s.NoneCovering 0 r.kind r.block
      ∧ s.defaultAction = .pass)
    ∧ (rules77.FirstCovering 1 r.kind r.block 1 ∧ (look rules77.rules 1).action = .pass
      ∧ shareBeats r.share ≤ rules77.writeStoreFree)
    ∧ (rules77.FirstCovering 3 .read 0x2FFF 3
      ∧ (look rules77.rules 3).action = .passReport) := by
  refine ⟨by decide, by decide, by decide⟩

/-! #### The arbiter -/

/-- UNRESERVED, with a head in port 3 that bids. -/
def bidding : State := holding up 3 [queuedOf .read 9 8 0 false] [entryOf 0 .waiting] 1

theorem witness_BidValueOrdersPorts :
    (1 ≤ (bidding.port 3).queue.length ∧ (bidding.port 3).queue.length ≤ 16)
    ∧ bidding.bid 3 = some 7 := by decide

/-- Window 1 of section 2.8, which lends, with its owner's queue empty. -/
def lending : State :=
  (holding (at28 500) 3 [queuedOf .read 9 8 0 false] [entryOf 0 .waiting] 1).withOccurrence 1
    fun _ => { isOpen := true, remaining := 0, unlimited := true, spent := false, charged := 0,
               lent := 0 }

theorem witness_DecisionByPosition :
    ((at28 80).position = .guard 0 ∧ (at28 99).position = .guard 0)
    ∧ bidding.position = .unreserved
    ∧ (window28.position = .window 0 ∧ window28.grantableHead 1 = some (queuedOf .write 9 8 0 true)
        ∧ 8 ≤ (window28.occurrence 0).remaining)
    ∧ (short28.position = .window 0
        ∧ short28.grantableHead 1 = some (queuedOf .read 9 8 0 false)
        ∧ ¬ ((short28.occurrence 0).unlimited = true ∨ 8 ≤ (short28.occurrence 0).remaining)
        ∧ (short28.active.window 0).lend = false)
    ∧ (lending.position = .window 1 ∧ lending.grantableHead 2 = none
        ∧ (lending.active.window 1).lend = true) := by
  refine ⟨by decide, by decide, by decide, by decide, by decide⟩

theorem witness_DecisionMarksAShortBudgetOnce :
    (short28.mayDecide = true ∧ short28.position = .window 0
      ∧ short28.grantableHead 1 = some (queuedOf .read 9 8 0 false)
      ∧ (short28.occurrence 0).unlimited = false ∧ (short28.occurrence 0).remaining < 8
      ∧ (short28.occurrence 0).isOpen = true ∧ (short28.occurrence 0).spent = false)
    ∧ ((after .grant short28).occurrence 0).spent = true
    ∧ State.reset.mayDecide = false ∧ bidding.position = .unreserved
    ∧ (let s := holding (in28 140 8 16 false) 1 [queuedOf .read 9 8 0 false] [] 1
       s.position = .window 0 ∧ 8 ≤ (s.occurrence 0).remaining) := by
  refine ⟨by decide, by decide, by decide, by decide, by decide⟩

theorem witness_GrantTakesTheLowestFreeSlot :
    (window28.mayDecide = true ∧ window28.decision = some (1, .byWindow 0)
      ∧ (window28.port 1).queue = queuedOf .write 9 8 0 true :: []
      ∧ window28.slot 0 = .free ∧ ∀ j < (0 : SlotId), window28.slot j ≠ .free)
    ∧ (bidding.mayDecide = true ∧ bidding.decision = some (3, .byBid)
      ∧ bidding.QueueLinkFound 3 (queuedOf .read 9 8 0 false) [] (entryOf 0 .waiting) [])
    ∧ (lending.mayDecide = true ∧ lending.decision = some (3, .lent 1)
      ∧ lending.QueueLinkFound 3 (queuedOf .read 9 8 0 false) [] (entryOf 0 .waiting) []) := by
  refine ⟨by decide, by decide, by decide⟩

theorem witness_NoGrantWithoutANamedPort :
    State.reset.mayDecide = false ∧ (up.mayDecide = true ∧ up.decision = none)
    ∧ (short28.mayDecide = true ∧ short28.decision = none)
    ∧ (at28 80).position = .guard 0 := by decide

theorem witness_DecisionTakenKept :
    (in28 140 2 22 true).StillPortsEmpty ∧ (in28 140 2 22 true).DecisionTaken
    ∧ (after .grant short28).DecisionTaken ∧ ∃ t, step (after .grant short28) = .next t := by
  refine ⟨by decide, by decide, by decide, _, rfl⟩

/-! #### The memory port -/

/-- Every part of a sound table, on a state with a read in DATA. -/
theorem witness_TableSoundKept : lastBeat.TableSound ∧ ∃ t, step lastBeat = .next t := by
  refine ⟨⟨by decide, by decide, ⟨by decide, ?_, ?_⟩, by decide⟩, _, rfl⟩
  · intro i h
    have : i = 2 := by injection h with h; exact h.symm
    subst this
    decide
  · intro i h
    exact absurd h (by simp [lastBeat, read121])

theorem witness_CommandTransfersItemByItem :
    let c := commandOf 2 .write 0x900 2 40 true
    let share := some [{ data := 7, mask := 0x0F }, { data := 8, mask := 0xFF }]
    ((sending 0 true false).SendingFrom 3 c share 0 false ∧ 0 < shareBeats share)
    ∧ ((sending 1 true true).SendingFrom 3 c share 1 true ∧ 1 < shareBeats share)
    ∧ ((sending 2 true true).SendingFrom 3 c share 2 true ∧ 2 = shareBeats share)
    ∧ ((sending 2 true false).SendingFrom 3 c share 2 false
        ∧ (sending 2 true false).deadline ≠ 0)
    ∧ { sending 2 true false with deadline := 0 }.SendingFrom 3 c share 2 false := by
  refine ⟨by decide, by decide, by decide, by decide, by decide⟩

/-- A write of port 1 in ISSUED in slot 2, posted or not, whose entry is second in the list. -/
def issuedWrite (posted : Bool) : State :=
  (holding up 1 [] [entryOf 4 (.pending 9), entryOf 5 (.pending 2), entryOf 6 .waiting] 7).withSlot
    2 (.issued (commandOf 1 .write 0x7200 8 5 posted) (.ticks 9))

theorem witness_WriteCompletionSettlesOk :
    let s := issuedWrite false
    let c := commandOf 1 .write 0x7200 8 5 false
    (s.deviceReset = false ∧ s.link = .up ∧ s.completion = .awaitHeader
      ∧ s.slot 2 = .issued c (.ticks 9) ∧ c.kind = .write)
    ∧ s.LinkFound 2 c [entryOf 4 (.pending 9)] (entryOf 5 (.pending 2)) [entryOf 6 .waiting]
    ∧ (issuedWrite true).slot 2 = .issued (commandOf 1 .write 0x7200 8 5 true) (.ticks 9) := by
  refine ⟨by decide, by decide, by decide⟩

theorem witness_FaultCompletionSettlesDataError :
    let read := read121 (.issued command121 (.ticks 120)) .awaitHeader
    (read.slot 2 = .issued command121 (.ticks 120) ∧ read.link = .up
      ∧ read.LinkFound 2 command121 [] (entryOf 5 (.pending 2)) [])
    ∧ (issuedWrite true).slot 2 = .issued (commandOf 1 .write 0x7200 8 5 true) (.ticks 9) := by
  refine ⟨by decide, by decide⟩

theorem witness_LateAndStrayHeaders :
    let orphan := read121 (.orphaned command121) .awaitHeader
    (orphan.deviceReset = false ∧ orphan.link = .up ∧ orphan.completion = .awaitHeader
      ∧ orphan.slot 2 = .orphaned command121 ∧ command121.kind = .read)
    ∧ (up.slot 31).isFree = true ∧ ((sending 0 true false).slot 3).isSending = true
    ∧ (∃ c ∈ (orphan.slot 2).command?, c.kind ≠ .write) := by
  refine ⟨by decide, by decide, by decide, command121, by decide⟩

theorem witness_HeaderEndsTheCompletionInProgress :
    (lastBeat.deviceReset = false ∧ lastBeat.link = .up ∧ lastBeat.completion = .data 2
      ∧ lastBeat.slot 2 = .receiving command121 (.ticks 1) [1, 2, 3, 4, 5, 6, 7]
      ∧ lastBeat.LinkFound 2 command121 [] (entryOf 5 (.pending 2)) [])
    ∧ (let s := read121 (.receiving command121 (.ticks 1) []) (.discard (some 2))
       s.completion = .discard (some 2) ∧ s.LinkFound 2 command121 [] (entryOf 5 (.pending 2)) [])
    ∧ (let s := read121 (.orphaned command121) (.discard (some 2))
       s.completion = .discard (some 2) ∧ s.slot 2 = .orphaned command121)
    ∧ { up with completion := .discard none }.completion = .discard none := by
  refine ⟨by decide, by decide, by decide, by decide⟩

theorem witness_ReadDataFillsTheReply :
    (let s := read121 (.issued command121 (.ticks 120)) .awaitHeader
     s.deviceReset = false ∧ s.link = .up ∧ s.completion = .awaitHeader
     ∧ s.slot 2 = .issued command121 (.ticks 120) ∧ command121.kind = .read)
    ∧ (lastBeat.deviceReset = false ∧ lastBeat.link = .up ∧ lastBeat.completion = .data 2
      ∧ lastBeat.slot 2 = .receiving command121 (.ticks 1) [1, 2, 3, 4, 5, 6, 7])
    ∧ ([1, 2, 3, 4, 5, 6, 7] : List BeatData).length < command121.length
    ∧ ([1, 2, 3, 4, 5, 6, 7] : List BeatData).length + 1 = command121.length
    ∧ lastBeat.LinkFound 2 command121 [] (entryOf 5 (.pending 2)) [] := by
  refine ⟨by decide, by decide, by decide, by decide, by decide⟩

theorem witness_ReadMismatchSettlesDataError :
    (let s := read121 (.receiving command121 (.ticks 1) []) (.data 2)
     s.completion = .data 2 ∧ ([] : List BeatData).length + 1 ≠ command121.length
     ∧ s.LinkFound 2 command121 [] (entryOf 5 (.pending 2)) [])
    ∧ (let s := read121 (.receiving command121 (.ticks 1) [1, 2, 3, 4, 5, 6, 7, 8]) (.data 2)
       s.completion = .data 2 ∧ s.slot 2 = .receiving command121 (.ticks 1) [1, 2, 3, 4, 5, 6, 7, 8]
       ∧ command121.length ≤ ([1, 2, 3, 4, 5, 6, 7, 8] : List BeatData).length)
    ∧ (let s := read121 (.receiving command121 (.ticks 1) [1, 2, 3, 4, 5, 6, 7, 8])
        (.discard (some 2))
       s.completion = .discard (some 2) ∧ s.LinkFound 2 command121 [] (entryOf 5 (.pending 2)) []) := by
  refine ⟨by decide, by decide, by decide⟩

theorem witness_OtherItemsAreDiscarded :
    State.reset.link ≠ .up
    ∧ (up.deviceReset = false ∧ up.link = .up ∧ up.completion = .awaitHeader)
    ∧ { up with completion := .discard none }.completion = .discard none
    ∧ (let s := read121 (.orphaned command121) (.discard (some 2))
       s.completion = .discard (some 2) ∧ s.slot 2 = .orphaned command121) := by decide

/-! #### Deadlines and the link -/

theorem witness_DeadlineExpiryOrphansTheSlot :
    (ending.deviceReset = false ∧ ending.slot 2 = .receiving command121 (.ticks 1) [1, 2, 3]
      ∧ ending.LinkFound 2 command121 [] (entryOf 5 (.pending 2)) [])
    ∧ (let c := commandOf 1 .write 0x7200 8 5 true
       (up.withSlot 31 (.issued c (.ticks 1))).slot 31 = .issued c (.ticks 1)
       ∧ c.posted = true)
    ∧ (let s := up.withSlot 2 (.issued command121 (.ticks 2))
       (∀ c, s.slot 2 ≠ .issued c (.ticks 1)) ∧ ∀ c b, s.slot 2 ≠ .receiving c (.ticks 1) b)
    ∧ ((up.slot 0).isFree = true ∧ ((sending 0 true false).slot 3).isSending = true
      ∧ ((read121 (.orphaned command121) .awaitHeader).slot 2).isOrphaned = true) := by
  refine ⟨by decide, by decide, ⟨fun c => ?_, fun c b => ?_⟩, by decide⟩ <;> simp

theorem witness_LinkDownFreesEverySlot :
    port122.deviceReset = false ∧ port122.link = .up ∧ ∀ p, port122.PendingLinked p := by
  refine ⟨by decide, by decide, ?_⟩
  intro p
  by_cases h : p = 2
  · subst h
    intro e he i hi
    have list : (port122.port 2).replies = [entryOf 39 (.pending 1), entryOf 42 .waiting] := rfl
    have : e = entryOf 39 (.pending 1) ∨ e = entryOf 42 .waiting := by simpa [list] using he
    rcases this with rfl | rfl
    · injection hi with hi
      subst hi
      exact ⟨commandOf 2 .read 9 4 39 false, by decide⟩
    · simp [entryOf] at hi
  · have : ∀ q : PortId, q ≠ 2 → (port122.port q).replies = [] := by decide
    intro e he
    simp [this p h] at he

theorem witness_LinkRisesFallsAndRestarts :
    State.reset.deviceReset = false ∧ State.reset.link ≠ .up ∧ State.reset.linkReady = false
    ∧ { State.reset with linkReady := true }.linkReady = true := by decide

theorem witness_LinkAndPortsSoundKept :
    up.LinkSound ∧ up.StillPortsEmpty
    ∧ (up.withPort 1 fun r => { r with mode := .halted }).StillPortsEmpty
    ∧ ∃ t, step up = .next t := by
  refine ⟨by decide, by decide, by decide, _, rfl⟩

/-! #### Replies -/

theorem witness_RepliesAreDeliveredInOrder :
    (up.deviceReset = false
      ∧ ((replies610 0).port 2).replies
        = entryOf 20 (.delivering .ok [1, 2, 3, 4] 0)
          :: [entryOf 21 (.ready .ok []), entryOf 22 (.ready .malformed [])]
      ∧ 0 < ([1, 2, 3, 4] : List BeatData).length)
    ∧ ((replies610 4).port 2).replies
        = entryOf 20 (.delivering .ok [1, 2, 3, 4] 4)
          :: [entryOf 21 (.ready .ok []), entryOf 22 (.ready .malformed [])]
    ∧ (3 < ([1, 2, 3, 4] : List BeatData).length ∧ 4 = 3 + 1)
    ∧ (entryOf 21 (.ready .ok [])).state = .ready .ok []
    ∧ ∀ e ∈ [entryOf 4 .waiting].head?, e.state.isReady = false := by
  refine ⟨by decide, by decide, by decide, by decide, by decide⟩

/-- A state whose replies are sound: a slot in ISSUED, a PENDING entry and a WAITING one. -/
def linked : State :=
  (holding up 1 [queuedOf .read 7 2 6 false] [entryOf 5 (.pending 2), entryOf 6 .waiting]
    7).withSlot 2 (.issued command121 (.ticks 9))

theorem witness_RepliesSoundKept :
    linked.RepliesSound ∧ linked.Capacities ∧ linked.StillPortsEmpty
    ∧ ∃ t, step linked = .next t := by
  refine ⟨⟨?_, ?_⟩, by decide, by decide, _, rfl⟩
  · intro p
    by_cases h : p = 1
    · subst h
      refine ⟨by decide, by decide, by decide, ?_⟩
      intro e he i hi
      have : e = entryOf 5 (.pending 2) ∨ e = entryOf 6 .waiting := by
        simpa [linked, holding] using he
      rcases this with rfl | rfl
      · injection hi with hi
        subst hi
        exact ⟨command121, by decide⟩
      · simp [entryOf] at hi
    · have empty : linked.port p = up.port p := by
        simp [linked, holding, State.withPort_port_of_ne _ _ h]
      have none : ∀ q : PortId, (up.port q).replies = [] ∧ (up.port q).queue = [] := by decide
      have : (linked.port p).replies = [] ∧ (linked.port p).queue = [] := by
        rw [empty]
        exact none p
      refine ⟨by simp [Port.SequencesRun, this], by simp [Port.DeliverySound, this],
        by simp [Port.WaitingLinked, this], ?_⟩
      intro e he
      simp [this] at he
  · intro i c hc
    by_cases h : i = 2
    · subst h
      have : c = command121 := by
        have : (linked.slot 2).replyLink? = some command121 := by decide
        rw [this] at hc
        exact (Option.some.inj hc).symm
      subst this
      exact ⟨entryOf 5 (.pending 2), by decide⟩
    · have : ∀ j : SlotId, j ≠ 2 → (linked.slot j).replyLink? = none := by decide
      simp [this i h] at hc

/-- One state with a read in DATA, and one with the event queue near its end. -/
theorem witness_CapacitiesKept :
    (lastBeat.Capacities ∧ lastBeat.TableSound ∧ ∃ t, step lastBeat = .next t)
    ∧ nearFull.Capacities := by
  refine ⟨⟨by decide, witness_TableSoundKept.1, _, rfl⟩, by decide⟩

/-! #### Ports, events and management -/

theorem witness_EnableAndDrainByPortState :
    up.deviceReset = false ∧ (0x03 : Byte).toNat = (3 : PortId).val
    ∧ (up.port 3).mode = .active ∧ (port97.port 3).mode = .draining
    ∧ ((up.withPort 3 fun r => { r with mode := .halted }).port 3).mode = .halted
    ∧ ((after (.portResetAssert 3) up).port 3).mode = .inReset .active false
    ∧ (let s := up.withPort 3 fun r => { r with mode := .draining }
       (s.port 3).mode = .draining ∧ (s.port 3).queue = [] ∧ (s.port 3).replies = []) := by
  decide

theorem witness_FlushAbortsTheQueue :
    port97.deviceReset = false ∧ (0x03 : Byte).toNat = (3 : PortId).val
    ∧ (port97.port 3).mode = .draining ∧ (port97.port 3).WaitingLinked
    ∧ ((up.withPort 3 fun r => { r with mode := .halted }).port 3).mode = .halted
    ∧ ((after (.portResetAssert 3) up).port 3).mode = .inReset .active false := by decide

theorem witness_PortResetEmptiesThePort :
    lastBeat.deviceReset = false ∧ lastBeat.TableSound ∧ (lastBeat.port 1).mode.code ≠ 3
    ∧ ((∃ d b, lastBeat.slot 2 = .receiving command121 d b) ∧ lastBeat.completion = .data 2)
    ∧ ((∃ d, (issuedWrite false).slot 2 = .issued (commandOf 1 .write 0x7200 8 5 false) d)
        ∧ ∀ i, (issuedWrite false).completion ≠ .data i)
    ∧ (commandOf 2 .write 0x900 2 40 true).port = 2 := by
  refine ⟨by decide, witness_TableSoundKept.1, by decide, ⟨⟨_, _, rfl⟩, rfl⟩,
    ⟨⟨_, rfl⟩, ?_⟩, rfl⟩
  intro i h
  simp [issuedWrite, holding, up, State.reset] at h

theorem witness_PortResetReleaseReturns :
    let s := up.withPort 2 fun r => { r with mode := .inReset .halted true }
    s.deviceReset = false ∧ (s.port 2).mode = .inReset .halted true
    ∧ ((after (.portResetAssert 2) up).port 2).mode = .inReset .active false := by decide

theorem witness_RecordsJoinOrAreDropped :
    (look nearFull.enables (Occasion.kindCode .linkUp) = true ∧ nearFull.events.length < 32)
    ∧ (let s := { nearFull with events := nearFull.events ++ nearFull.events.take 2 }
       32 ≤ s.events.length ∧ { s with dropCount := 254 }.dropCount < 255
       ∧ { s with dropCount := 255 }.dropCount = 255)
    ∧ look { up with enables := tabulate fun _ => false }.enables 0 = false := by decide

theorem witness_PopMovesTheOldestRecord :
    State.reset.events = [] ∧ ∃ r rest, records117.events = r :: rest := by
  refine ⟨by decide, _, _, rfl⟩

theorem witness_FieldsAreCheckedByTheirTables :
    up.deviceReset = false ∧ objectOf 0x0A 0 = none ∧ objectOf 0x02 4 = none
    ∧ (objectOf 0x02 3 = some (.port 3) ∧ fieldIn (.port 3) 0x05 = none)
    ∧ fieldIn (.port 3) 0x00 = some (.port 3 .weight) := by decide

theorem witness_WriteStoresOneField :
    up.deviceReset = false ∧ objectOf 0x02 3 = some (.port 3)
    ∧ fieldIn (.port 3) 0x00 = some (.port 3 .weight)
    ∧ (Field.port 3 .weight).writable = true ∧ (Field.port 3 .weight).isStaged = false
    ∧ (Field.port 3 .weight).accepts 15 = true ∧ (Field.port 3 .weight).accepts 16 = false
    ∧ (fieldIn (.port 3) 0x08 = some (.port 3 .portState)
      ∧ (Field.port 3 .portState).writable = false)
    ∧ (fieldIn (.staged 7) 0x0A = some (.stagedWindow 7 .length)
      ∧ (Field.stagedWindow 7 .length).isStaged = true
      ∧ { up with commitPending := true }.commitPending = true) := by decide

theorem witness_CountersAreReadAndCleared :
    up.deviceReset = false ∧ objectOf 0x07 3 = some (.counters 3)
    ∧ (fieldIn (.counters 3) 0x03 = some (.counter 3 .timeouts)
      ∧ (Field.counter 3 .timeouts).clearable = true)
    ∧ (fieldIn (.port 3) 0x00 = some (.port 3 .weight)
      ∧ (Field.port 3 .weight).clearable = false)
    ∧ (0x03 : Byte).toNat = (3 : PortId).val := by decide

theorem witness_EmptyCommandsChangeNothing :
    up.deviceReset = false ∧ 4 ≤ (0x04 : Byte).toNat := by decide

theorem witness_FrameFollowsItsBits :
    ({ up with frame := .command (List.replicate 62 true) } : State).frame
      = .command (List.replicate 62 true) ∧ (List.replicate 62 true).length < 63
    ∧ (bits63.frame = .command (List.replicate 63 false) ∧ (List.replicate 63 false).length = 63)
    ∧ { up with frame := .answer 102 ⟨.done, 0⟩ }.frame = .answer 102 ⟨.done, 0⟩
    ∧ { up with frame := .answer 103 ⟨.done, 0⟩ }.frame = .answer 103 ⟨.done, 0⟩
    ∧ up.frame = .unselected := by decide

theorem witness_ReadAnswersByTheTables :
    up.deviceReset = false
    ∧ ([1, 1, 4, 8, 8, 8, 8, 4, 1, 1][(0x0A : Byte).toNat]?).getD 0 ≤ (0x00 : Byte).toNat
    ∧ ([1, 1, 4, 8, 8, 8, 8, 4, 1, 1][(0x02 : Byte).toNat]?).getD 0 ≤ (0x04 : Byte).toNat := by
  decide

theorem witness_HeldRecordIsReadByField :
    (up.deviceReset = false ∧ up.holder = none ∧ (0x0C : Byte).toNat < 13)
    ∧ (let s := after .popEvent records117
       s.deviceReset = false ∧ ∃ r, s.holder = some r) ∧ 13 ≤ (0x0D : Byte).toNat := by
  refine ⟨by decide, ⟨rfl, _, rfl⟩, by decide⟩

theorem witness_AnswerLineShowsTheResult :
    up.frame = .unselected ∧ bits63.frame = .command (List.replicate 63 false)
    ∧ { up with frame := .overrun }.frame = .overrun
    ∧ { up with frame := .answer 64 ⟨.done, 0⟩ }.frame = .answer 64 ⟨.done, 0⟩
    ∧ { up with frame := .answer 103 ⟨.done, 0⟩ }.frame = .answer 103 ⟨.done, 0⟩ := by decide

theorem witness_FrameCarriesItsCommand :
    (MgmtCommand.write 0xFF 0xFF 0xFF 0xFFFFFFFF).wellFormed = true
    ∧ (MgmtCommand.unknown 0x51).wellFormed = true := by decide

theorem witness_ClockedFrameIsItsCommand :
    let w : FrameWord := 0x0109000200000000
    let s : State := { up with
      pending := .chipSelectFall :: (bitsOfWord w).map .spiClockRisingEdge ++ [.grant] }
    s.deviceReset = false
    ∧ s.pending = .chipSelectFall :: (bitsOfWord w).map .spiClockRisingEdge ++ [.grant] := by
  exact ⟨rfl, rfl⟩

end Sys2Proof.Tests
end

section
/-! SUPPORT and PROOFS. The schedule: what the checks of Table 7 answer, that the intervals of a
valid schedule lie one after another, and the statements that rest on the two. -/

namespace Sys2Proof.Machine

/-! ### The first place that passes a test -/

/-- A search finds the first place that passes, and no other. -/
theorem find_finRange_eq_some {n : Nat} {p : Fin n → Bool} {i : Fin n} :
    (List.finRange n).find? p = some i ↔ p i = true ∧ ∀ j < i, p j = false := by
  refine ⟨fun h => ⟨List.find?_some h, fun j hj => ?_⟩, fun h => find_first h.1 h.2⟩
  obtain ⟨_, k, hk, rfl, earlier⟩ := List.find?_eq_some_iff_getElem.1 h
  simpa using earlier j.val (by simpa [Fin.lt_def] using hj)

/-- A search finds nothing exactly when no place passes. -/
theorem find_finRange_eq_none {n : Nat} {p : Fin n → Bool} :
    (List.finRange n).find? p = none ↔ ∀ i, p i = false := by
  simp

/-! ### The checks of Table 7 -/

/-- Row 4 of Table 7 holds at window `w`. -/
def Schedule.EndsInFrame (sch : Schedule) (w : WindowId) : Prop :=
  sch.inUse w = true → sch.closesAt w ≤ sch.period.toNat

/-- Row 5 of Table 7 holds at window `w`. -/
def Schedule.InOrder (sch : Schedule) (w : WindowId) : Prop :=
  sch.inUse w = true → 1 ≤ w.val → sch.opensAt (windowBefore w) < sch.opensAt w

/-- Row 6 of Table 7 holds at window `w`. -/
def Schedule.GuardClear (sch : Schedule) (w : WindowId) : Prop :=
  sch.inUse w = true → 1 ≤ w.val →
    sch.closesAt (windowBefore w) + sch.guardTicks w ≤ sch.opensAt w

/-- Rows 1 to 3 of Table 7 hold. -/
def Schedule.HeadValid (sch : Schedule) : Prop :=
  64 ≤ sch.period.toNat ∧ sch.prescaler.toNat ∈ validPrescalers ∧ sch.count.toNat ≤ 8

/-- A row fails first at window `w` exactly when it fails there and holds at every window before. -/
theorem Schedule.firstFailing_eq_some {sch : Schedule} {fails : WindowId → Bool}
    {holds : WindowId → Prop} (row : ∀ w, (sch.inUse w && fails w) = false ↔ holds w)
    {w : WindowId} :
    sch.firstFailing fails = some w ↔ ¬ holds w ∧ ∀ v < w, holds v := by
  simp only [firstFailing, find_finRange_eq_some, ← row, Bool.not_eq_false]

/-- A row fails nowhere exactly when it holds at every window. -/
theorem Schedule.firstFailing_eq_none {sch : Schedule} {fails : WindowId → Bool}
    {holds : WindowId → Prop} (row : ∀ w, (sch.inUse w && fails w) = false ↔ holds w) :
    sch.firstFailing fails = none ↔ ∀ w, holds w := by
  simp only [firstFailing, find_finRange_eq_none, row]

theorem Schedule.pastPeriod_eq_false (sch : Schedule) (w : WindowId) :
    (sch.inUse w && sch.pastPeriod w) = false ↔ sch.EndsInFrame w := by
  simp [pastPeriod, EndsInFrame]

theorem Schedule.outOfOrder_eq_false (sch : Schedule) (w : WindowId) :
    (sch.inUse w && sch.outOfOrder w) = false ↔ sch.InOrder w := by
  simp [outOfOrder, InOrder]

theorem Schedule.guardMeetsWindow_eq_false (sch : Schedule) (w : WindowId) :
    (sch.inUse w && sch.guardMeetsWindow w) = false ↔ sch.GuardClear w := by
  simp [guardMeetsWindow, GuardClear, Nat.add_comm (sch.guardTicks w)]

/-- What the checks of Table 7 answer, each answer with the rows that hold before it and the window
at which its row fails first. -/
inductive Schedule.Checked (sch : Schedule) : Option Result → Prop
  | period (short : sch.period.toNat < 64) : Checked sch (some ⟨.badPeriod, 0⟩)
  | prescaler (long : 64 ≤ sch.period.toNat) (bad : sch.prescaler.toNat ∉ validPrescalers) :
      Checked sch (some ⟨.badPrescaler, 0⟩)
  | count (long : 64 ≤ sch.period.toNat) (good : sch.prescaler.toNat ∈ validPrescalers)
      (many : 8 < sch.count.toNat) : Checked sch (some ⟨.badCount, 0⟩)
  | pastPeriod (w : WindowId) (value : Word32) (names : value = BitVec.ofNat 32 w.val)
      (head : sch.HeadValid) (fails : ¬ sch.EndsInFrame w) (first : ∀ v < w, sch.EndsInFrame v) :
      Checked sch (some ⟨.windowPastPeriod, value⟩)
  | outOfOrder (w : WindowId) (value : Word32) (names : value = BitVec.ofNat 32 w.val)
      (head : sch.HeadValid) (row4 : ∀ v, sch.EndsInFrame v) (fails : ¬ sch.InOrder w)
      (first : ∀ v < w, sch.InOrder v) : Checked sch (some ⟨.windowOrder, value⟩)
  | guardMeets (w : WindowId) (value : Word32) (names : value = BitVec.ofNat 32 w.val)
      (head : sch.HeadValid) (row4 : ∀ v, sch.EndsInFrame v) (row5 : ∀ v, sch.InOrder v)
      (fails : ¬ sch.GuardClear w) (first : ∀ v < w, sch.GuardClear v) :
      Checked sch (some ⟨.guardOverlap, value⟩)
  | guardBefore (value : Word32) (names : value = 0)
      (head : sch.HeadValid) (row4 : ∀ v, sch.EndsInFrame v) (row5 : ∀ v, sch.InOrder v)
      (row6 : ∀ v, sch.GuardClear v) (used : sch.inUse 0 = true)
      (before : sch.opensAt 0 < sch.guardTicks 0) : Checked sch (some ⟨.guardOverlap, value⟩)
  | passed (valid : sch.Valid) : Checked sch none

/-- The checks answer as `Checked` lists. -/
theorem Schedule.fault_checked (sch : Schedule) : sch.Checked sch.fault := by
  unfold fault
  split
  · exact .period ‹_›
  rename_i long
  replace long : 64 ≤ sch.period.toNat := by omega
  split
  · exact .prescaler long ‹_›
  rename_i good
  replace good := not_not.1 good
  split
  · exact .count long good ‹_›
  have head : sch.HeadValid := ⟨long, good, by omega⟩
  split
  · obtain ⟨fails, first⟩ := (firstFailing_eq_some sch.pastPeriod_eq_false).1 ‹_›
    exact .pastPeriod _ _ rfl head fails first
  have row4 := (firstFailing_eq_none sch.pastPeriod_eq_false).1 ‹_›
  split
  · obtain ⟨fails, first⟩ := (firstFailing_eq_some sch.outOfOrder_eq_false).1 ‹_›
    exact .outOfOrder _ _ rfl head row4 fails first
  have row5 := (firstFailing_eq_none sch.outOfOrder_eq_false).1 ‹_›
  split
  · obtain ⟨fails, first⟩ := (firstFailing_eq_some sch.guardMeetsWindow_eq_false).1 ‹_›
    exact .guardMeets _ _ rfl head row4 row5 fails first
  have row6 := (firstFailing_eq_none sch.guardMeetsWindow_eq_false).1 ‹_›
  split
  · rename_i begins
    simp only [guardBeforeFrame, Bool.and_eq_true, decide_eq_true_eq] at begins
    exact .guardBefore _ rfl head row4 row5 row6 begins.1 begins.2
  · rename_i begins
    obtain ⟨_, _, few⟩ := head
    exact .passed ⟨long, good, few, row4, row5, row6, by simpa [guardBeforeFrame] using begins⟩

/-- An answer that `Checked` lists is the one that the checks give. -/
theorem Schedule.fault_of_checked {sch : Schedule} {r : Option Result} (h : sch.Checked r) :
    sch.fault = r := by
  have pastPeriod_some {w} := firstFailing_eq_some (w := w) sch.pastPeriod_eq_false
  have outOfOrder_some {w} := firstFailing_eq_some (w := w) sch.outOfOrder_eq_false
  have guardMeets_some {w} := firstFailing_eq_some (w := w) sch.guardMeetsWindow_eq_false
  have pastPeriod_none := firstFailing_eq_none sch.pastPeriod_eq_false
  have outOfOrder_none := firstFailing_eq_none sch.outOfOrder_eq_false
  have guardMeets_none := firstFailing_eq_none sch.guardMeetsWindow_eq_false
  cases h with
  | period short => simp [fault, short]
  | prescaler long bad => simp [fault, long.not_gt, bad]
  | count long good many => simp [fault, long.not_gt, good, many]
  | pastPeriod w _ names head fails first =>
    obtain ⟨long, good, few⟩ := head
    simp [fault, long.not_gt, good, few.not_gt, pastPeriod_some.2 ⟨fails, first⟩, names]
  | outOfOrder w _ names head row4 fails first =>
    obtain ⟨long, good, few⟩ := head
    simp [fault, long.not_gt, good, few.not_gt, pastPeriod_none.2 row4,
      outOfOrder_some.2 ⟨fails, first⟩, names]
  | guardMeets w _ names head row4 row5 fails first =>
    obtain ⟨long, good, few⟩ := head
    simp [fault, long.not_gt, good, few.not_gt, pastPeriod_none.2 row4, outOfOrder_none.2 row5,
      guardMeets_some.2 ⟨fails, first⟩, names]
  | guardBefore _ names head row4 row5 row6 used before =>
    obtain ⟨long, good, few⟩ := head
    simp [fault, long.not_gt, good, few.not_gt, pastPeriod_none.2 row4, outOfOrder_none.2 row5,
      guardMeets_none.2 row6, guardBeforeFrame, used, before, names]
  | passed valid =>
    obtain ⟨long, good, few, row4, row5, row6, row7⟩ := valid
    have clear : sch.guardBeforeFrame = false := by simpa [guardBeforeFrame] using row7
    simp [fault, long.not_gt, good, few.not_gt, pastPeriod_none.2 row4, outOfOrder_none.2 row5,
      guardMeets_none.2 row6, clear]

theorem Schedule.fault_eq_iff {sch : Schedule} {r : Option Result} :
    sch.fault = r ↔ sch.Checked r :=
  ⟨fun h => h ▸ sch.fault_checked, fault_of_checked⟩

/-- No row of Table 7 fails exactly when the schedule is valid. -/
theorem Schedule.fault_eq_none {sch : Schedule} : sch.fault = none ↔ sch.Valid :=
  fault_eq_iff.trans ⟨fun | .passed valid => valid, .passed⟩

/-- The value of a failing row tells its window. -/
theorem windowValue_inj {v w : WindowId} :
    BitVec.ofNat 32 v.val = BitVec.ofNat 32 w.val ↔ v = w := by
  simp only [← BitVec.toNat_inj, BitVec.toNat_ofNat, Fin.ext_iff]
  omega

/-- The guard row does not fail at window 0, which has no window before it. -/
theorem Schedule.guardClear_zero (sch : Schedule) : sch.GuardClear 0 :=
  fun _ h => absurd h (by simp)

/-- Settles O11: every answer of the checks is one case of `Checked`, which the row's conditions
pick out. -/
theorem checksFollowTableSeven : Obligations.ChecksFollowTableSeven := by
  intro sch
  refine ⟨?period, ?prescaler, ?count, fun w => ?pastPeriod, fun w => ?outOfOrder,
    fun w later => ?guardMeets, ?guardBefore, Schedule.fault_eq_none⟩ <;>
    refine Schedule.fault_eq_iff.trans ⟨fun checked => ?_, fun conditions => ?_⟩
  case period.refine_1 => cases checked with | period short => exact short
  case period.refine_2 => exact .period conditions
  case prescaler.refine_1 => cases checked with | prescaler long bad => exact ⟨long, bad⟩
  case prescaler.refine_2 => exact .prescaler conditions.1 conditions.2
  case count.refine_1 => cases checked with | count long good many => exact ⟨long, good, many⟩
  case count.refine_2 =>
    obtain ⟨long, good, many⟩ := conditions
    exact .count long good many
  case pastPeriod.refine_1 =>
    cases checked with
    | pastPeriod v _ names head fails first =>
      obtain rfl := windowValue_inj.1 names
      exact ⟨head, fails, first⟩
  case pastPeriod.refine_2 =>
    obtain ⟨head, fails, first⟩ := conditions
    exact .pastPeriod w _ rfl head fails first
  case outOfOrder.refine_1 =>
    cases checked with
    | outOfOrder v _ names head row4 fails first =>
      obtain rfl := windowValue_inj.1 names
      exact ⟨head, row4, fails, first⟩
  case outOfOrder.refine_2 =>
    obtain ⟨head, row4, fails, first⟩ := conditions
    exact .outOfOrder w _ rfl head row4 fails first
  case guardMeets.refine_1 =>
    cases checked with
    | guardMeets v _ names head row4 row5 fails first =>
      obtain rfl := windowValue_inj.1 names
      exact ⟨head, row4, row5, fails, first⟩
    | guardBefore _ names =>
      obtain rfl := windowValue_inj.1 (show _ = BitVec.ofNat 32 (0 : WindowId).val from names)
      exact absurd later (by simp)
  case guardMeets.refine_2 =>
    obtain ⟨head, row4, row5, fails, first⟩ := conditions
    exact .guardMeets w _ rfl head row4 row5 fails first
  case guardBefore.refine_1 =>
    cases checked with
    | guardMeets v _ names head row4 row5 fails first =>
      obtain rfl := windowValue_inj.1 (show BitVec.ofNat 32 (0 : WindowId).val = _ from names)
      exact absurd sch.guardClear_zero fails
    | guardBefore _ _ head row4 row5 row6 used before =>
      exact ⟨head, row4, row5, row6, used, before⟩
  case guardBefore.refine_2 =>
    obtain ⟨head, row4, row5, row6, used, before⟩ := conditions
    exact .guardBefore _ rfl head row4 row5 row6 used before

/-! ### The intervals of a valid schedule -/

/-- The tick lies in the guard interval of window `w` or in the window itself. -/
def Schedule.Covers (sch : Schedule) (tick : Nat) (w : WindowId) : Prop :=
  sch.inGuard tick w = true ∨ sch.inWindow tick w = true

/-- What it is for a tick to lie in the guard interval or the window of `w`. -/
theorem Schedule.bounds_of_covers {sch : Schedule} {tick : Nat} {w : WindowId}
    (stored : sch.LengthsStored) (h : sch.Covers tick w) :
    sch.inUse w = true ∧ sch.opensAt w ≤ tick + sch.guardTicks w ∧ tick < sch.closesAt w := by
  have length := stored w
  simp only [Covers, inGuard, inWindow, Bool.and_eq_true, decide_eq_true_eq] at h
  simp only [closesAt, opensAt] at h ⊢
  rcases h with ⟨⟨used, from_⟩, until_⟩ | ⟨⟨used, from_⟩, until_⟩
  · exact ⟨used, from_, by omega⟩
  · exact ⟨used, by omega, until_⟩

/-- The tick is not in the guard interval and in the window of the same index. -/
theorem Schedule.not_inGuard_of_inWindow {sch : Schedule} {tick : Nat} {w : WindowId}
    (h : sch.inWindow tick w = true) : sch.inGuard tick w = false := by
  simp only [inWindow, Bool.and_eq_true, decide_eq_true_eq] at h
  simp only [inGuard, Bool.and_eq_false_iff, decide_eq_false_iff_not]
  omega

/-- In a valid schedule a window ends before the guard interval of every later one (R6, R7). -/
theorem Schedule.closesAt_le_of_lt {sch : Schedule} (valid : sch.Valid) {v w : WindowId}
    (later : v < w) (used : sch.inUse w = true) :
    sch.closesAt v + sch.guardTicks w ≤ sch.opensAt w := by
  obtain ⟨_, _, _, _, row5, row6, _⟩ := valid
  obtain ⟨n, hn⟩ := w
  induction n with
  | zero => exact absurd later (by simp)
  | succ n ih =>
    have before : windowBefore ⟨n + 1, hn⟩ = ⟨n, by omega⟩ := rfl
    have step := row6 ⟨n + 1, hn⟩ used (by simp)
    rw [before] at step
    rcases Nat.lt_or_ge v.val n with earlier | last
    · have used' : sch.inUse ⟨n, by omega⟩ = true := by
        simp only [inUse, decide_eq_true_eq] at used ⊢
        omega
      have first := ih (by omega) earlier used'
      simp only [closesAt, opensAt] at first step ⊢
      omega
    · have same : v = ⟨n, by omega⟩ := Fin.ext (by have : v.val < n + 1 := later; simp; omega)
      rwa [same]

/-- In a valid schedule no tick lies in the intervals of two windows (R6, R7). -/
theorem Schedule.covers_unique {sch : Schedule} (valid : sch.Valid) (stored : sch.LengthsStored)
    {tick : Nat} {v w : WindowId} (hv : sch.Covers tick v) (hw : sch.Covers tick w) : v = w := by
  obtain ⟨usedV, fromV, untilV⟩ := bounds_of_covers stored hv
  obtain ⟨usedW, fromW, untilW⟩ := bounds_of_covers stored hw
  rcases lt_trichotomy v w with earlier | same | later
  · have := closesAt_le_of_lt valid earlier usedW
    omega
  · exact same
  · have := closesAt_le_of_lt valid later usedV
    omega

/-- A search over windows whose test only one window can pass finds it. -/
theorem find_window_of_unique {p : WindowId → Bool} {w : WindowId} (h : p w = true)
    (unique : ∀ v, p v = true → v = w) : (List.finRange 8).find? p = some w :=
  find_first h fun v earlier => by
    by_contra hv
    exact earlier.ne (unique v (by simpa using hv))

/-- The position in a window of a valid schedule. -/
theorem Schedule.position_of_inWindow {sch : Schedule} (valid : sch.Valid)
    (stored : sch.LengthsStored) {tick : Nat} {w : WindowId} (h : sch.inWindow tick w = true) :
    sch.position tick = .window w := by
  have noGuard : (List.finRange 8).find? (sch.inGuard tick) = none :=
    find_finRange_eq_none.2 fun v => by
      by_contra hv
      have guarded : sch.inGuard tick v = true := by simpa using hv
      obtain rfl := covers_unique valid stored (.inl guarded) (.inr h)
      exact absurd guarded (by simp [not_inGuard_of_inWindow h])
  have found := find_window_of_unique h fun v hv => covers_unique valid stored (.inr hv) (.inr h)
  simp only [position, noGuard, found]

/-- The position in a guard interval of a valid schedule. -/
theorem Schedule.position_of_inGuard {sch : Schedule} (valid : sch.Valid)
    (stored : sch.LengthsStored) {tick : Nat} {w : WindowId} (h : sch.inGuard tick w = true) :
    sch.position tick = .guard w := by
  have found := find_window_of_unique h fun v hv => covers_unique valid stored (.inl hv) (.inl h)
  simp only [position, found]

/-- What each position says of the tick, in any schedule. -/
theorem Schedule.position_cases (sch : Schedule) (tick : Nat) :
    (∃ w, sch.position tick = .guard w ∧ sch.inGuard tick w = true)
    ∨ (∃ w, sch.position tick = .window w ∧ sch.inWindow tick w = true)
    ∨ (sch.position tick = .unreserved
        ∧ ∀ v, sch.inWindow tick v = false ∧ sch.inGuard tick v = false) := by
  unfold position
  split
  · exact .inl ⟨_, rfl, List.find?_some ‹_›⟩
  · have noGuard := find_finRange_eq_none.1 ‹_›
    split
    · exact .inr (.inl ⟨_, rfl, List.find?_some ‹_›⟩)
    · have noWindow := find_finRange_eq_none.1 ‹_›
      exact .inr (.inr ⟨rfl, fun v => ⟨noWindow v, noGuard v⟩⟩)

/-- Settles O10: the intervals of a valid schedule do not meet, so a search finds the only one. -/
theorem positionsAreDisjoint : Obligations.PositionsAreDisjoint := by
  intro sch tick w valid stored
  have window := @Schedule.position_of_inWindow sch valid stored tick
  have guard := @Schedule.position_of_inGuard sch valid stored tick
  rcases sch.position_cases tick with ⟨v, at_, inside⟩ | ⟨v, at_, inside⟩ | ⟨at_, outside⟩
  · refine ⟨⟨fun h => ?_, window⟩, ⟨fun h => ?_, guard⟩, ⟨fun h => ?_, fun h => ?_⟩⟩
    · simp [at_] at h
    · obtain rfl : v = w := by simpa [at_] using h
      exact inside
    · simp [at_] at h
    · simp [(h v).2] at inside
  · refine ⟨⟨fun h => ?_, window⟩, ⟨fun h => ?_, guard⟩, ⟨fun h => ?_, fun h => ?_⟩⟩
    · obtain rfl : v = w := by simpa [at_] using h
      exact inside
    · simp [at_] at h
    · simp [at_] at h
    · simp [(h v).1] at inside
  · simp [at_, outside]

end Sys2Proof.Machine
end

section
/-! PROOFS. The frame timer: what a tick end makes of the frame tick, the occurrences and the usage
records, and the statements that say it. -/

namespace Sys2Proof.Machine

/-! ### The parts of a tick end -/

/-- A tick end before the frame timer: the tick count and the countdown (R2, R117). -/
def State.counted (s : State) : State :=
  { s with
    draws := s.draws + 1
    clocks := 0
    tickCount := s.tickCount + 1
    slots := tabulate fun i => (s.slot i).countDown }

/-- What the tick count and the countdown leave alone. -/
@[simp] theorem State.counted_rest (s : State) :
    s.counted.active = s.active ∧ s.counted.staged = s.staged
    ∧ s.counted.commitPending = s.commitPending ∧ s.counted.frameTick = s.frameTick
    ∧ s.counted.frameNumber = s.frameNumber ∧ s.counted.usage = s.usage
    ∧ s.counted.ports = s.ports ∧ s.counted.events = s.events
    ∧ s.counted.dropCount = s.dropCount ∧ (∀ p, s.counted.port p = s.port p)
    ∧ ∀ w, s.counted.occurrence w = s.occurrence w := by
  simp [State.counted, State.port, State.occurrence]

@[simp] theorem State.counted_clocks (s : State) : s.counted.clocks = 0 := rfl

@[simp] theorem State.counted_slot (s : State) (i : SlotId) :
    s.counted.slot i = (s.slot i).countDown := by
  simp [State.counted, State.slot]

theorem State.advanceTick_eq (s : State) :
    s.advanceTick = s.counted.advanceFrame.takeDecision := rfl

/-- TICK_END outside device reset: the frame timer, the decision, and the expiries. -/
theorem exec_tickEnd_eq {s : State} (running : s.deviceReset = false) :
    exec .tickEnd s
      = .next (s.expiryOrder.foldl State.expireSlot s.counted.advanceFrame.takeDecision) := by
  show execTickEnd s = _
  simp only [execTickEnd, State.tickEnd, running, State.advanceTick_eq]
  rfl

/-! ### Closing and opening -/

/-- An occurrence after the closing of the windows that end at a frame tick. -/
theorem State.closeWindows_occurrence (s : State) (tick : Nat) (w : WindowId) :
    (s.closeWindows tick).occurrence w
      = if s.active.inUse w = true ∧ s.active.closesAt w = tick then
          { s.occurrence w with isOpen := false }
        else s.occurrence w := by
  simp [State.closeWindows, State.occurrence]

/-- A usage record after the closing of the windows that end at a frame tick. -/
theorem State.closeWindows_usage (s : State) (tick : Nat) (w : WindowId) :
    look (s.closeWindows tick).usage w
      = if s.active.inUse w = true ∧ s.active.closesAt w = tick then (s.occurrence w).usage
        else look s.usage w := by
  simp [State.closeWindows]

/-- An occurrence after the opening of the windows that start at a frame tick. -/
theorem State.openWindows_occurrence (s : State) (tick : Nat) (w : WindowId) :
    (s.openWindows tick).occurrence w
      = if s.active.inUse w = true ∧ s.active.opensAt w = tick then
          Occurrence.opened (s.active.window w).budget
        else s.occurrence w := by
  simp [State.openWindows, State.occurrence]

/-- The state with the frame tick moved on, inside the frame. -/
def State.moved (s : State) : State := { s with frameTick := s.frameTick + 1 }

/-- Inside the frame the frame tick moves on, then windows close and open there. -/
theorem State.advanceFrame_inside {s : State} (inside : s.frameTick + 1 < s.active.period.toNat) :
    s.advanceFrame
      = (s.moved.closeWindows (s.frameTick + 1)).openWindows (s.frameTick + 1) := by
  simp only [State.advanceFrame, inside, if_true]
  rfl

/-- At the end of the period a frame starts. -/
theorem State.advanceFrame_wrap {s : State} (done : s.active.period.toNat ≤ s.frameTick + 1) :
    s.advanceFrame = s.frameStart := by
  simp only [State.advanceFrame, done.not_gt, if_false]

/-- An occurrence after the frame tick moved inside the frame. -/
theorem State.advanceFrame_occurrence_inside {s : State}
    (inside : s.frameTick + 1 < s.active.period.toNat) (w : WindowId) :
    s.advanceFrame.occurrence w
      = if s.active.inUse w = true ∧ s.active.opensAt w = s.frameTick + 1 then
          Occurrence.opened (s.active.window w).budget
        else if s.active.inUse w = true ∧ s.active.closesAt w = s.frameTick + 1 then
          { s.occurrence w with isOpen := false }
        else s.occurrence w := by
  simp only [advanceFrame_inside inside, openWindows_occurrence, closeWindows_occurrence,
    closeWindows_rest]
  rfl

/-- A usage record after the frame tick moved inside the frame. -/
theorem State.advanceFrame_usage_inside {s : State}
    (inside : s.frameTick + 1 < s.active.period.toNat) (w : WindowId) :
    look s.advanceFrame.usage w
      = if s.active.inUse w = true ∧ s.active.closesAt w = s.frameTick + 1 then
          (s.occurrence w).usage
        else look s.usage w := by
  simp only [advanceFrame_inside inside, openWindows_rest, closeWindows_usage]
  rfl

/-- Settles O7: the frame timer moves inside the frame, and every place reads off the closing and
the opening of windows. -/
theorem tickEndAdvancesTheFrame : Obligations.TickEndAdvancesTheFrame := by
  intro s running inside
  have opened := State.advanceFrame_occurrence_inside (s := s.counted) (by simpa using inside)
  have used := State.advanceFrame_usage_inside (s := s.counted) (by simpa using inside)
  simp only [State.counted_rest] at opened used
  refine ⟨s.counted.advanceFrame, s.expiryOrder, s.expiryOrder_expiring, exec_tickEnd_eq running,
    ?_, by simp, fun w inUse opens => ?_, fun w inUse closes => ⟨?_, fun stays => ?_⟩,
    fun w stays => ⟨?_, fun stays' => ?_⟩⟩
  · rw [State.advanceFrame_inside (by simpa using inside)]
    rfl
  · rw [opened, if_pos ⟨inUse, opens⟩]
    rfl
  · rw [used, if_pos ⟨inUse, closes⟩]
    rfl
  · rw [opened, if_neg (fun h => stays h.2), if_pos ⟨inUse, closes⟩]
  · rw [used, if_neg (by simpa [imp_iff_not_or] using stays)]
  · rw [opened, if_neg (by simpa [imp_iff_not_or] using stays'),
      if_neg (by simpa [imp_iff_not_or] using stays)]

/-! ### A frame start -/

/-- The frame that ends closes its windows, and the next begins at frame tick 0 (R14). -/
def State.begun (s : State) : State :=
  { s.closeWindows s.active.period.toNat with frameTick := 0, frameNumber := s.frameNumber + 1 }

/-- A frame start with no commit pending (R14). -/
theorem State.frameStart_plain {s : State} (clear : s.commitPending = false) :
    s.frameStart = s.begun.openWindows 0 := by
  simp [State.frameStart, State.begun, clear]

/-- A frame start that switches the schedule (R12, R14). -/
theorem State.frameStart_switch {s : State} (pending : s.commitPending = true) :
    s.frameStart = s.begun.switchSchedule.openWindows 0 := by
  simp [State.frameStart, State.begun, pending]

@[simp] theorem State.switchSchedule_active (s : State) : s.switchSchedule.active = s.staged := by
  simp [State.switchSchedule]

@[simp] theorem State.switchSchedule_commitPending (s : State) :
    s.switchSchedule.commitPending = false := by
  simp [State.switchSchedule]

/-- What a frame start makes of the fields of the frame timer (R12, R14). -/
@[simp] theorem State.frameStart_timer (s : State) :
    s.frameStart.frameTick = 0 ∧ s.frameStart.frameNumber = s.frameNumber + 1
    ∧ s.frameStart.commitPending = false
    ∧ s.frameStart.active = if s.commitPending then s.staged else s.active := by
  cases pending : s.commitPending with
  | false => simp [frameStart_plain pending, begun, pending]
  | true => simp [frameStart_switch pending, begun]

/-- An occurrence after a frame start. -/
theorem State.frameStart_occurrence (s : State) (w : WindowId) :
    s.frameStart.occurrence w
      = if s.frameStart.active.inUse w = true ∧ s.frameStart.active.opensAt w = 0 then
          Occurrence.opened (s.frameStart.active.window w).budget
        else if s.active.inUse w = true ∧ s.active.closesAt w = s.active.period.toNat then
          { s.occurrence w with isOpen := false }
        else s.occurrence w := by
  rw [← closeWindows_occurrence]
  cases pending : s.commitPending with
  | false => rw [frameStart_plain pending, openWindows_occurrence]; simp [begun, State.occurrence]
  | true => rw [frameStart_switch pending, openWindows_occurrence]; simp [begun, State.occurrence]

/-- The state with its occurrence records replaced. -/
def State.withOccurrences (s : State) (x : Vector Occurrence 8) : State :=
  { s with occurrences := x }

/-- Offering a record does not read the occurrences. -/
theorem State.record_withOccurrences (s : State) (x : Vector Occurrence 8) (o : Occasion) :
    (s.withOccurrences x).record o = (s.record o).withOccurrences x := by
  unfold State.record State.withOccurrences
  dsimp only
  split
  · split <;> rfl
  · rfl

/-- The staged copy becomes the active one, and the usage records are cleared (R12, R21). -/
def State.switched (s : State) : State :=
  { s with active := s.staged, commitPending := false, usage := tabulate fun _ => Usage.cleared }

/-- Settles O8: the frame timer starts a frame, with or without a switch. -/
theorem tickEndStartsAFrame : Obligations.TickEndStartsAFrame := by
  intro s running done
  have wraps := State.advanceFrame_wrap (s := s.counted) (by simpa using done)
  have occurrences := s.counted.frameStart_occurrence
  simp only [State.counted_rest] at occurrences
  refine ⟨s.counted.frameStart, s.expiryOrder, s.expiryOrder_expiring,
    by rw [exec_tickEnd_eq running, wraps], by simp, by simp, by simp [State.counted], by simp,
    by simp, fun clear => ⟨?_, fun w => ?_⟩, fun pending => ?_, by simp, fun w inUse opens => ?_,
    fun w stays => ?_⟩
  · rw [State.frameStart_plain (by simpa using clear)]
    rfl
  · rw [State.frameStart_plain (by simpa using clear)]
    simpa [State.begun, Occurrence.usage] using s.counted.closeWindows_usage _ w
  · simp only [State.frameStart_timer, State.frameStart_rest, State.counted_rest]
    show _ = ((s.counted.begun.switched.withOccurrences s.counted.frameStart.occurrences).record
      .scheduleSwitched).withOccurrences s.counted.frameStart.occurrences
    rw [State.record_withOccurrences, State.frameStart_switch (by simpa using pending)]
    rfl
  · rw [occurrences, if_pos ⟨inUse, opens⟩]
    rfl
  · rw [occurrences, if_neg (by simpa [imp_iff_not_or] using stays)]

end Sys2Proof.Machine
end

section
/-! PROOFS. What every step keeps of the frame timer: the schedules and the frame tick, and the
occurrence records. -/

namespace Sys2Proof.Machine

/-! ### The schedules and the frame tick -/

/-- The frame timer of two states is the same in the five fields that its soundness reads. -/
def State.SameTimer (s t : State) : Prop :=
  t.active = s.active ∧ t.staged = s.staged ∧ t.commitPending = s.commitPending
    ∧ t.frameTick = s.frameTick ∧ t.clocks = s.clocks

theorem State.TimerSound.of_same {s t : State} (h : s.TimerSound) (same : s.SameTimer t) :
    t.TimerSound := by
  obtain ⟨active, staged, commit, tick, clocks⟩ := same
  simpa only [TimerSound, active, staged, commit, tick, clocks] using h

theorem Schedule.Valid.period_pos {sch : Schedule} (h : sch.Valid) : 0 < sch.period.toNat := by
  obtain ⟨long, _⟩ := h
  omega

/-- A valid schedule has a prescaler of at least 1 (Table 5). -/
theorem Schedule.Valid.prescaler_pos {sch : Schedule} (h : sch.Valid) :
    0 < sch.prescaler.toNat := by
  obtain ⟨_, listed, _⟩ := h
  have pos : ∀ n ∈ validPrescalers, 0 < n := by decide
  exact pos _ listed

/-- A frame timer that counts no clock yet is sound on a valid active schedule (R1, R3). -/
theorem State.timerSound_of_tickStart {t : State} {active staged : Schedule}
    (activeIs : t.active = active) (stagedIs : t.staged = staged) (valid : active.Valid)
    (pendingValid : t.commitPending = true → staged.Valid) (stored : active.LengthsStored)
    (stagedStored : staged.LengthsStored) (inFrame : t.frameTick < active.period.toNat)
    (clocks : t.clocks = 0) : t.TimerSound := by
  subst activeIs stagedIs
  exact ⟨valid, pendingValid, stored, stagedStored, inFrame, clocks ▸ valid.prescaler_pos⟩

theorem Schedule.default_valid : Schedule.default.Valid := by decide

theorem Schedule.default_lengthsStored : Schedule.default.LengthsStored := by decide

/-- What a reset makes of the frame timer (R4, R8). -/
@[simp] theorem State.resetBlocks_timer (s : State) (frame : MgmtFrame) :
    (s.resetBlocks frame).active = Schedule.default
    ∧ (s.resetBlocks frame).staged = Schedule.default
    ∧ (s.resetBlocks frame).commitPending = false ∧ (s.resetBlocks frame).frameTick = 0
    ∧ (s.resetBlocks frame).clocks = 0
    ∧ ∀ w, (s.resetBlocks frame).occurrence w = Occurrence.cleared := by
  simp [State.resetBlocks, State.reset, State.occurrence]

/-- A reset leaves a sound frame timer. -/
theorem State.resetBlocks_timerSound (s : State) (frame : MgmtFrame) :
    (s.resetBlocks frame).TimerSound :=
  timerSound_of_tickStart (active := Schedule.default) (staged := Schedule.default) (by simp)
    (by simp) Schedule.default_valid (by simp) Schedule.default_lengthsStored
    Schedule.default_lengthsStored (by simpa using Schedule.default_valid.period_pos) (by simp)

/-- The advance of the frame tick keeps the frame timer sound: a frame start takes over a schedule
that the commit found valid (R3, R10, R12). -/
theorem State.TimerSound.advanceFrame {s : State} (h : s.TimerSound) (clocks : s.clocks = 0) :
    s.advanceFrame.TimerSound := by
  obtain ⟨valid, pendingValid, stored, stagedStored, _, _⟩ := h
  rcases Nat.lt_or_ge (s.frameTick + 1) s.active.period.toNat with inside | done
  · rw [advanceFrame_inside inside]
    exact timerSound_of_tickStart (active := s.active) (staged := s.staged) (by simp [State.moved])
      (by simp [State.moved]) valid (by simpa [State.moved] using pendingValid) stored stagedStored
      (by simpa [State.moved] using inside) (by simp [State.moved, clocks])
  · rw [advanceFrame_wrap done]
    cases pending : s.commitPending with
    | false =>
      exact timerSound_of_tickStart (active := s.active) (staged := s.staged) (by simp [pending])
        (by simp) valid (by simp) stored stagedStored (by simpa using valid.period_pos)
        (by simp [clocks])
    | true =>
      have valid' := pendingValid pending
      exact timerSound_of_tickStart (active := s.staged) (staged := s.staged) (by simp [pending])
        (by simp) valid' (by simp) stagedStored stagedStored (by simpa using valid'.period_pos)
        (by simp [clocks])

/-- A WRITE of a window field stores a length of at least 1 (Table 59). -/
theorem Window.withField_length {x : Window} {v : Nat} {f : WindowField}
    (inRange : f.accepts v = true) (stored : 1 ≤ x.length.toNat) :
    1 ≤ (x.withField v f).length.toNat := by
  cases f with
  | length =>
    simp only [WindowField.accepts, Bool.and_eq_true, decide_eq_true_eq] at inRange
    simp only [Window.withField, BitVec.toNat_ofNat]
    omega
  | _ => exact stored

/-- A WRITE of a field keeps the frame timer sound: the staged copy changes only while no commit is
pending (R10, R160). -/
theorem State.TimerSound.withField {s : State} {f : Field} {v : Nat} (h : s.TimerSound)
    (unlocked : f.isStaged = true → s.commitPending = false) (inRange : f.accepts v = true) :
    (s.withField v f).TimerSound := by
  cases f with
  | stagedSchedule f =>
    obtain ⟨valid, _, stored, stagedStored, inFrame, inTick⟩ := h
    refine ⟨valid, fun pending => ?_, stored, ?_, inFrame, inTick⟩
    · exact absurd (unlocked rfl) (by simpa using pending)
    · intro w
      cases f <;> exact stagedStored w
  | stagedWindow v' f =>
    obtain ⟨valid, _, stored, stagedStored, inFrame, inTick⟩ := h
    refine ⟨valid, fun pending => ?_, stored, fun w => ?_, inFrame, inTick⟩
    · exact absurd (unlocked rfl) (by simpa using pending)
    · simp only [State.withField, Schedule.window, look_put]
      split
      · exact Window.withField_length inRange (stagedStored v')
      · exact stagedStored w
  | global f => cases f <;> exact h
  | _ => exact h

theorem State.TimerSound.takeDecision {s : State} (h : s.TimerSound) : s.takeDecision.TimerSound :=
  h.of_same (by simp [State.SameTimer])

/-- A management command keeps the frame timer sound: COMMIT makes a commit pending only of a valid
staged copy (R7, R10). -/
theorem Performed.timerSound {s t : State} (e : Performed s t) (h : s.TimerSound) :
    t.TimerSound := by
  cases e with
  | unchanged => exact h
  | stored f v writable unlocked inRange =>
    unfold State.storeField
    split
    · exact (h.withField unlocked inRange).takeDecision
    · exact h.withField unlocked inRange
  | committed clear valid =>
    obtain ⟨activeValid, _, rest⟩ := h
    exact ⟨activeValid, fun _ => Schedule.fault_eq_none.1 valid, rest⟩
  | cancelled =>
    obtain ⟨activeValid, _, rest⟩ := h
    exact ⟨activeValid, fun pending => absurd pending (by simp), rest⟩
  | reset => exact s.resetBlocks_timerSound _
  | _ => exact h.of_same (by simp [State.SameTimer, State.withMode])

/-- Everything a command can do keeps the frame timer sound. -/
theorem Effect.timerSound {s t : State} (e : Effect s t) (h : s.TimerSound) : t.TimerSound := by
  have clockless : ∀ n < s.active.prescaler.toNat, { s with clocks := n : State }.TimerSound := by
    intro n inTick
    obtain ⟨valid, pendingValid, stored, stagedStored, inFrame, _⟩ := h
    exact ⟨valid, pendingValid, stored, stagedStored, inFrame, inTick⟩
  cases e with
  | clocked running inside => exact clockless _ inside
  | tickEnded running =>
    have counted : s.counted.TimerSound := clockless 0 h.1.prescaler_pos
    have advanced : s.advanceTick.TimerSound := (counted.advanceFrame rfl).takeDecision
    exact advanced.of_same (by simp [State.SameTimer])
  | expired i running ends =>
    have reached : s.reachTickEnd.TimerSound := clockless _ (by have := h.1.prescaler_pos; omega)
    exact reached.of_same (by simp [State.SameTimer])
  | resetReleased standing => exact s.resetBlocks_timerSound _
  | managed t r running performed => exact performed.timerSound h
  | _ =>
    exact h.of_same (by simp [State.SameTimer, State.strayBeat, State.takeLinkUp,
      State.withResetInput])

/-- Settles O13, over the cases of what a step can do. -/
theorem timerSoundKept : Obligations.TimerSoundKept := by
  intro s t h stepped
  rcases step_effect stepped with e | ⟨c, cs, -, e⟩
  · exact e.timerSound h
  · exact e.timerSound (s := s.withPending cs) h

end Sys2Proof.Machine
end

section
/-! PROOFS. What every step keeps of the occurrence records: open exactly in the window, and charged
plus remaining equal to the budget. -/

namespace Sys2Proof.Machine

/-! ### What leaves the beats of every occurrence alone -/

/-- The occurrence records of two states differ at most in their spent marks (R19). -/
def State.SameBeats (s t : State) : Prop :=
  ∀ w, ∃ mark, t.occurrence w = { s.occurrence w with spent := mark }

theorem State.SameBeats.of_eq {s t : State} (h : ∀ w, t.occurrence w = s.occurrence w) :
    s.SameBeats t :=
  fun w => ⟨(s.occurrence w).spent, by rw [h w]⟩

theorem State.SameBeats.trans {s t u : State} (h : s.SameBeats t) (h' : t.SameBeats u) :
    s.SameBeats u := fun w => by
  obtain ⟨_, ht⟩ := h w
  obtain ⟨mark, hu⟩ := h' w
  exact ⟨mark, by rw [hu, ht]⟩

theorem State.markSpent_sameBeats (s : State) (w : WindowId) : s.SameBeats (s.markSpent w) := by
  rcases s.markSpent_cases w with ⟨same, -⟩ | ⟨-, -, marked⟩
  · exact .of_eq fun v => by rw [same]
  · intro v
    rw [marked]
    by_cases hv : v = w
    · subst hv
      exact ⟨true, by simp⟩
    · exact ⟨(s.occurrence v).spent, by simp [withOccurrence_occurrence_of_ne _ _ hv]⟩

theorem State.takeDecision_sameBeats (s : State) : s.SameBeats s.takeDecision := by
  rcases s.takeDecision_cases with ⟨same, -⟩ | ⟨w, -, -, marked⟩
  · exact .of_eq fun v => by rw [same]
  · exact marked ▸ s.markSpent_sameBeats w

/-- A decision on a state whose occurrences are those of `s`. -/
theorem State.SameBeats.decided {s t : State} (h : ∀ w, t.occurrence w = s.occurrence w) :
    s.SameBeats t.takeDecision :=
  (of_eq h).trans t.takeDecision_sameBeats

theorem State.arrive_sameBeats (s : State) (p : PortId) (r : Request) :
    s.SameBeats (s.arrive p r) := by
  unfold State.arrive
  dsimp only
  split
  · exact .of_eq (by simp)
  · exact .of_eq (by simp)
  · exact .decided (by simp)

theorem State.decideAfter_sameBeats {s t u : State} (h : ∀ w, t.occurrence w = s.occurrence w) :
    s.SameBeats (t.decideAfter u) := by
  unfold State.decideAfter
  split
  · exact .of_eq h
  · exact .decided h

theorem State.dataBeat_sameBeats (s : State) (i : SlotId) (c : Command) (d : Deadline)
    (beats : List BeatData) (data : BeatData) (last : Bool) :
    s.SameBeats (s.dataBeat i c d beats data last) := by
  unfold State.dataBeat
  repeat' split
  · exact .decided (by simp [State.goodRead])
  · exact .decided (by simp [State.mismatch])
  · exact .of_eq (by simp)
  · exact .decided (by simp [State.mismatch])
  · exact .of_eq (by simp)

theorem State.expireSlot_sameBeats (s : State) (i : SlotId) : s.SameBeats (s.expireSlot i) := by
  rcases s.expireSlot_cases i with same | ⟨c, d, -, expired⟩ | ⟨c, d, beats, -, expired⟩
  · exact .of_eq fun w => by rw [same]
  · exact expired ▸ .decided (by simp)
  · exact expired ▸ .decided (by simp)

theorem State.expireAll_sameBeats (s : State) (order : List SlotId) :
    s.SameBeats (s.expireAll order) :=
  expireAll_keeps (P := s.SameBeats) (fun t i h => h.trans (t.expireSlot_sameBeats i)) order s
    (.of_eq fun _ => rfl)

/-- The active schedule and the frame tick stand, and every occurrence but for its spent mark. -/
def State.FrameStands (s t : State) : Prop :=
  t.active = s.active ∧ t.frameTick = s.frameTick ∧ s.SameBeats t

/-- The reset values of the active schedule, the frame tick and the occurrences (R4, R8, R17). -/
def State.FrameReset (t : State) : Prop :=
  t.active = Schedule.default ∧ t.frameTick = 0 ∧ ∀ w, t.occurrence w = Occurrence.cleared

/-- A management command other than SOFT_RESET leaves the frame and the occurrences. -/
theorem Performed.frameStands_or_reset {s t : State} (e : Performed s t) :
    s.FrameStands t ∨ t.FrameReset := by
  cases e with
  | stored f v writable unlocked inRange =>
    refine .inl ?_
    unfold State.storeField
    split
    · exact ⟨by simp, by simp, .decided (by simp)⟩
    · exact ⟨by simp, by simp, .of_eq (by simp)⟩
  | reset => exact .inr ⟨by simp, by simp, by simp⟩
  | _ =>
    exact .inl ⟨by simp [State.withMode], by simp [State.withMode],
      .of_eq (by simp [State.withMode, State.occurrence])⟩

/-- What a command can do to the frame and to the beats of an occurrence: nothing, a tick end, a
grant, or a reset. -/
theorem Effect.frame_cases {s t : State} (e : Effect s t) :
    s.FrameStands t ∨ t = s.advanceTick.expireAll s.expiryOrder
    ∨ (∃ p course, s.decision = some (p, course) ∧ t = s.takeDecision.grant p course)
    ∨ t.FrameReset := by
  cases e with
  | tickEnded running => exact .inr (.inl rfl)
  | granted p course may named => exact .inr (.inr (.inl ⟨p, course, named, rfl⟩))
  | resetReleased standing => exact .inr (.inr (.inr ⟨by simp, by simp, by simp⟩))
  | managed t r running performed =>
    rcases performed.frameStands_or_reset with stands | reset
    · exact .inl stands
    · exact .inr (.inr (.inr reset))
  | arrived p r takes => exact .inl ⟨by simp, by simp, s.arrive_sameBeats p r⟩
  | headerTaken i kind status running up =>
    exact .inl ⟨by simp, by simp, State.decideAfter_sameBeats (by simp)⟩
  | dataBeat i c d beats data last running up channel slot =>
    exact .inl ⟨by simp, by simp, s.dataBeat_sameBeats i c d beats data last⟩
  | expired i running ends =>
    exact .inl ⟨by simp, by simp, (State.SameBeats.of_eq (by simp)).trans
      (s.reachTickEnd.expireSlot_sameBeats i)⟩
  | decided may none => exact .inl ⟨by simp, by simp, .decided fun _ => rfl⟩
  | transferEnded i c share taken mark running slot last =>
    exact .inl ⟨by simp, by simp, .decided (by simp)⟩
  | discardEnded i running up channel => exact .inl ⟨by simp, by simp, .decided (by simp)⟩
  | linkUp low running down =>
    exact .inl ⟨by simp [State.takeLinkUp], by simp [State.takeLinkUp],
      .decided (by simp [State.occurrence])⟩
  | deliveryEnded p running last => exact .inl ⟨by simp, by simp, .decided (by simp)⟩
  | portReset p x report running mode =>
    exact .inl ⟨by simp, by simp, .decided (by simp [State.occurrence])⟩
  | _ =>
    exact .inl ⟨by simp [State.strayBeat, State.withResetInput],
      by simp [State.strayBeat, State.withResetInput],
      .of_eq (by simp [State.strayBeat, State.withResetInput, State.occurrence])⟩

/-! ### Sound occurrences -/

/-- The spent mark is no part of the soundness of an occurrence. -/
theorem State.OccurrencesSound.of_stands {s t : State} (h : s.OccurrencesSound)
    (stands : s.FrameStands t) : t.OccurrencesSound := by
  obtain ⟨active, tick, beats⟩ := stands
  intro w
  obtain ⟨mark, hw⟩ := beats w
  have sound := h w
  simpa only [OccurrenceSound, active, tick, hw] using sound

/-- An occurrence just opened in its window is sound (R15). -/
theorem State.occurrenceSound_of_opened {t : State} {w : WindowId}
    (inside : t.active.inWindow t.frameTick w = true)
    (opened : t.occurrence w = Occurrence.opened (t.active.window w).budget) :
    t.OccurrenceSound w := by
  simp [OccurrenceSound, inside, opened, Occurrence.opened]

/-- A closed occurrence is sound outside its window (R16). -/
theorem State.occurrenceSound_of_closed {t : State} {w : WindowId}
    (outside : t.active.inWindow t.frameTick w = false)
    (closed : (t.occurrence w).isOpen = false) : t.OccurrenceSound w := by
  simp [OccurrenceSound, outside, closed]

/-- No window is open in the default schedule. -/
theorem State.occurrencesSound_of_reset {t : State} (reset : t.FrameReset) :
    t.OccurrencesSound := by
  obtain ⟨active, tick, cleared⟩ := reset
  refine fun w => occurrenceSound_of_closed ?_ (by rw [cleared w]; rfl)
  simp [active, Schedule.inWindow, Schedule.inUse, Schedule.default]

/-- A window in use holds the frame tick at which it opens: its length is at least 1 (Table 6). -/
theorem Schedule.inWindow_of_opensAt {sch : Schedule} (stored : sch.LengthsStored) {w : WindowId}
    {tick : Nat} (used : sch.inUse w = true) (opens : sch.opensAt w = tick) :
    sch.inWindow tick w = true := by
  have length := stored w
  simp only [inWindow, used, Bool.true_and, Bool.and_eq_true, decide_eq_true_eq]
  simp only [opensAt, closesAt] at opens ⊢
  omega

/-- Where no window opens or closes, the next frame tick lies in the same windows (R6). -/
theorem Schedule.inWindow_succ {sch : Schedule} {w : WindowId} {tick : Nat}
    (opens : ¬ (sch.inUse w = true ∧ sch.opensAt w = tick + 1))
    (closes : ¬ (sch.inUse w = true ∧ sch.closesAt w = tick + 1)) :
    sch.inWindow (tick + 1) w = true ↔ sch.inWindow tick w = true := by
  simp only [inWindow, Bool.and_eq_true, decide_eq_true_eq, and_assoc]
  refine and_congr_right fun used => ?_
  have opens' : sch.opensAt w ≠ tick + 1 := fun h => opens ⟨used, h⟩
  have closes' : sch.closesAt w ≠ tick + 1 := fun h => closes ⟨used, h⟩
  omega

/-- The frame tick moves inside the frame: windows open and close where their ticks begin and end.
-/
theorem State.OccurrencesSound.advance_inside {s : State} (h : s.OccurrencesSound)
    (stored : s.active.LengthsStored) (inside : s.frameTick + 1 < s.active.period.toNat) :
    s.advanceFrame.OccurrencesSound := by
  intro w
  have active : s.advanceFrame.active = s.active := by
    simp [advanceFrame_inside inside, State.moved]
  have tick : s.advanceFrame.frameTick = s.frameTick + 1 := by
    simp [advanceFrame_inside inside, State.moved]
  have becomes := advanceFrame_occurrence_inside inside w
  by_cases opens : s.active.inUse w = true ∧ s.active.opensAt w = s.frameTick + 1
  · rw [if_pos opens] at becomes
    refine occurrenceSound_of_opened ?_ (by rw [becomes, active])
    rw [active, tick]
    exact Schedule.inWindow_of_opensAt stored opens.1 opens.2
  · rw [if_neg opens] at becomes
    by_cases closes : s.active.inUse w = true ∧ s.active.closesAt w = s.frameTick + 1
    · rw [if_pos closes] at becomes
      refine occurrenceSound_of_closed ?_ (by rw [becomes])
      simp [active, tick, Schedule.inWindow, closes.2]
    · rw [if_neg closes] at becomes
      have sound := h w
      simpa only [OccurrenceSound, active, tick, becomes, Schedule.inWindow_succ opens closes]
        using sound

/-- A frame start closes every window that is open: a valid schedule ends each by the period. Those
of the copy then active that start at 0 open (R14). -/
theorem State.OccurrencesSound.frameStart {s : State} (h : s.OccurrencesSound)
    (valid : s.active.Valid) (stored : s.frameStart.active.LengthsStored)
    (done : s.active.period.toNat ≤ s.frameTick + 1) : s.frameStart.OccurrencesSound := by
  obtain ⟨_, _, _, ends, _⟩ := valid
  intro w
  have becomes := s.frameStart_occurrence w
  by_cases opens : s.frameStart.active.inUse w = true ∧ s.frameStart.active.opensAt w = 0
  · rw [if_pos opens] at becomes
    refine occurrenceSound_of_opened ?_ becomes
    simpa using Schedule.inWindow_of_opensAt stored opens.1 opens.2
  · rw [if_neg opens] at becomes
    refine occurrenceSound_of_closed ?_ ?_
    · by_contra inside
      simp only [Schedule.inWindow, frameStart_timer, Bool.not_eq_false, Bool.and_eq_true,
        decide_eq_true_eq] at inside
      simp only [frameStart_timer] at opens
      obtain ⟨⟨used, from_⟩, -⟩ := inside
      exact opens ⟨used, by omega⟩
    · rw [becomes]
      split
      · rfl
      · rename_i stays
        by_contra isOpen
        obtain ⟨openIff, -, -⟩ := h w
        have inside := openIff.1 (by simpa using isOpen)
        simp only [Schedule.inWindow, Bool.and_eq_true, decide_eq_true_eq] at inside
        obtain ⟨⟨used, _⟩, before⟩ := inside
        have := ends w used
        exact stays ⟨used, by omega⟩

/-- A tick end keeps the occurrences sound. -/
theorem State.OccurrencesSound.advanceFrame {s : State} (h : s.OccurrencesSound)
    (timer : s.TimerSound) (clocks : s.clocks = 0) : s.advanceFrame.OccurrencesSound := by
  obtain ⟨-, -, stored', -, -, -⟩ := timer.advanceFrame clocks
  obtain ⟨valid, _, stored, _, _, _⟩ := timer
  rcases Nat.lt_or_ge (s.frameTick + 1) s.active.period.toNat with inside | done
  · exact h.advance_inside stored inside
  · rw [advanceFrame_wrap done] at stored' ⊢
    exact h.frameStart valid stored' done

/-! ### The charge of a grant -/

/-- A window grant is of a head that the budget of the window is enough for (R51). -/
theorem State.fits_of_byWindow {s : State} {p : PortId} {w : WindowId}
    (named : s.decision = some (p, .byWindow w)) :
    ∃ q rest, (s.port p).queue = q :: rest ∧ (s.occurrence w).tooSmallFor q.length = false := by
  have granted : s.windowGrant w = some p := by
    simp only [State.decision] at named
    split at named
    · cases named
    · split at named
      · simp only [Option.some.injEq, Prod.mk.injEq, Course.byWindow.injEq] at named
        obtain ⟨rfl, rfl⟩ := named
        assumption
      · split at named <;> simp at named
    · simp at named
  simp only [State.windowGrant] at granted
  split at granted
  · rename_i q head
    split at granted
    · cases granted
    · rename_i fits
      cases granted
      obtain ⟨rest, queue, -⟩ := queue_of_grantableHead head
      exact ⟨q, rest, queue, by simpa using fits⟩
  · cases granted

/-- The occurrences a grant leaves: those of its charge or count, or all as they were. -/
theorem State.grant_occurrences (s : State) (p : PortId) (course : Course) :
    s.grant p course = s ∨ ∃ q rest, (s.port p).queue = q :: rest
      ∧ ∀ w, (s.grant p course).occurrence w = (s.account course q.length).occurrence w := by
  unfold State.grant
  split
  · rename_i i q rest _ queue
    refine .inr ⟨q, rest, queue, fun w => ?_⟩
    cases course <;> simp [State.account, State.withOccurrence, State.occurrence]
  · exact .inl rfl
  · exact .inl rfl

/-- A charge that the budget is enough for keeps charged and remaining beats summing to it (R18). -/
theorem Occurrence.charge_sum {o : Occurrence} {n budget : Nat} (fits : o.tooSmallFor n = false)
    (limited : o.unlimited = false) (isOpen : o.isOpen = true) (small : budget ≤ 4095)
    (sum : o.charged + o.remaining = budget) :
    (o.charge n).charged + (o.charge n).remaining = budget := by
  have enough : n ≤ o.remaining := by simpa [tooSmallFor, limited] using fits
  simp only [charge, isOpen, limited, addBeats, Config.beatCountLimit, if_true,
    Bool.false_eq_true, if_false]
  omega

@[simp] theorem Occurrence.charge_rest (o : Occurrence) (n : Nat) :
    (o.charge n).isOpen = o.isOpen ∧ (o.charge n).unlimited = o.unlimited := by
  unfold charge
  split <;> simp

@[simp] theorem Occurrence.lend_rest (o : Occurrence) (n : Nat) :
    (o.lend n).isOpen = o.isOpen ∧ (o.lend n).unlimited = o.unlimited
    ∧ (o.lend n).charged = o.charged ∧ (o.lend n).remaining = o.remaining := by
  unfold lend
  split <;> simp

/-- The charge or the count of a grant keeps the occurrences sound (R18, R20). -/
theorem State.OccurrencesSound.account {s : State} (h : s.OccurrencesSound) {course : Course}
    {n : Nat} (fits : ∀ w, course = .byWindow w → (s.occurrence w).tooSmallFor n = false) :
    (s.account course n).OccurrencesSound := by
  intro v
  have sound := h v
  cases course with
  | byBid => exact sound
  | byWindow w =>
    by_cases hv : v = w
    · subst hv
      obtain ⟨openIff, unlimitedIff, sum⟩ := sound
      refine ⟨by simpa [State.account] using openIff, by simpa [State.account] using unlimitedIff,
        fun isOpen limited => ?_⟩
      simp only [State.account, withOccurrence_occurrence_same, withOccurrence_active,
        Occurrence.charge_rest] at isOpen limited ⊢
      exact Occurrence.charge_sum (fits v rfl) limited isOpen (by omega) (sum isOpen limited)
    · simpa [OccurrenceSound, State.account, withOccurrence_occurrence_of_ne _ _ hv] using sound
  | lent w =>
    by_cases hv : v = w
    · subst hv
      simpa [OccurrenceSound, State.account] using sound
    · simpa [OccurrenceSound, State.account, withOccurrence_occurrence_of_ne _ _ hv] using sound

/-- A grant after its decision keeps the occurrences sound. -/
theorem State.OccurrencesSound.grant {s : State} (h : s.OccurrencesSound) {p : PortId}
    {course : Course} (named : s.decision = some (p, course)) :
    (s.takeDecision.grant p course).OccurrencesSound := by
  have decided : s.takeDecision.OccurrencesSound :=
    h.of_stands ⟨by simp, by simp, s.takeDecision_sameBeats⟩
  rcases s.takeDecision.grant_occurrences p course with same | ⟨q, rest, queue, becomes⟩
  · rwa [same]
  · have accounted := decided.account (course := course) (n := q.length) fun w byWindow => by
      subst byWindow
      obtain ⟨q', rest', queue', fits⟩ := fits_of_byWindow named
      obtain ⟨mark, hw⟩ := s.takeDecision_sameBeats w
      obtain ⟨rfl, rfl⟩ : q = q' ∧ rest = rest' := by simpa [queue'] using queue.symm
      rw [hw]
      exact fits
    exact accounted.of_stands ⟨by simp, by simp, .of_eq becomes⟩

/-- Everything a command can do keeps the occurrences sound. -/
theorem Effect.occurrencesSound {s t : State} (e : Effect s t) (timer : s.TimerSound)
    (h : s.OccurrencesSound) : t.OccurrencesSound := by
  rcases e.frame_cases with stands | rfl | ⟨p, course, named, rfl⟩ | reset
  · exact h.of_stands stands
  · obtain ⟨valid, pendingValid, stored, stagedStored, inFrame, _⟩ := timer
    have counted : s.counted.TimerSound :=
      State.timerSound_of_tickStart rfl rfl valid pendingValid stored stagedStored inFrame rfl
    have advanced : s.counted.advanceFrame.OccurrencesSound :=
      State.OccurrencesSound.advanceFrame (s := s.counted) h counted rfl
    refine advanced.of_stands ⟨by simp [State.advanceTick_eq], by simp [State.advanceTick_eq], ?_⟩
    exact (State.takeDecision_sameBeats _).trans (State.expireAll_sameBeats _ _)
  · exact h.grant named
  · exact State.occurrencesSound_of_reset reset

/-- Settles O14, over the cases of what a step can do to the frame. -/
theorem occurrencesSoundKept : Obligations.OccurrencesSoundKept := by
  intro s t timer h stepped
  rcases step_effect stepped with e | ⟨c, cs, -, e⟩
  · exact e.occurrencesSound timer h
  · exact e.occurrencesSound (s := s.withPending cs) timer h

end Sys2Proof.Machine
end

section
/-! SUPPORT and PROOFS. The grant decision: what it reads of the state, and that every step leaves
it taken. -/

namespace Sys2Proof

/-- A row as the list of what stands at its places. -/
theorem toList_eq_map_look {α : Type} {n : Nat} (v : Vector α n) :
    v.toList = (List.finRange n).map (look v) :=
  List.ext_getElem (by simp) fun i _ _ => by simp [look]

end Sys2Proof

namespace Sys2Proof.Machine

/-! ### The beats of a reply list -/

/-- The read data that a reply list holds (R82). -/
def replyBeats (l : List ReplyEntry) : Nat := (l.map fun e => e.state.data.length).sum

theorem Port.readBeats_eq (r : Port) : r.readBeats = replyBeats r.replies := rfl

@[simp] theorem replyBeats_nil : replyBeats [] = 0 := rfl

@[simp] theorem replyBeats_cons (e : ReplyEntry) (l : List ReplyEntry) :
    replyBeats (e :: l) = e.state.data.length + replyBeats l := by
  simp [replyBeats]

@[simp] theorem replyBeats_append (l m : List ReplyEntry) :
    replyBeats (l ++ m) = replyBeats l + replyBeats m := by
  simp [replyBeats]

/-- The beginning of a delivery holds on to the data. -/
@[simp] theorem replyBeats_beginDelivery (l : List ReplyEntry) :
    replyBeats (beginDelivery l) = replyBeats l := by
  have lengths := congrArg (List.map List.length) (beginDelivery_data l)
  simp only [List.map_map] at lengths
  exact congrArg List.sum lengths

/-- A change of entries that changes no data changes no beats. -/
theorem replyBeats_map {f : ReplyEntry → ReplyEntry}
    (same : ∀ e, (f e).state.data = e.state.data) (l : List ReplyEntry) :
    replyBeats (l.map f) = replyBeats l := by
  simp [replyBeats, Function.comp_def, same]

/-- A new entry without data holds no beats. -/
@[simp] theorem Port.appendReply_readBeats (r : Port) (x : Request) {state : EntryState}
    (empty : state.data = []) : (r.appendReply x state).readBeats = r.readBeats := by
  simp [Port.readBeats_eq, Port.appendReply, empty]

/-- An item taken leaves the data in the store until the delivery ends (R82, R98). -/
@[simp] theorem Port.takeItem_readBeats (r : Port) : r.takeItem.readBeats = r.readBeats := by
  cases replies : r.replies with
  | nil => simp [Port.takeItem, replies]
  | cons e es =>
    cases state : e.state <;>
      simp [Port.takeItem, replies, state, Port.readBeats_eq, EntryState.data]

/-- What the taking of an item leaves alone. -/
@[simp] theorem Port.takeItem_rest (r : Port) :
    r.takeItem.mode = r.mode ∧ r.takeItem.settings = r.settings ∧ r.takeItem.queue = r.queue
    ∧ r.takeItem.replies.length = r.replies.length := by
  cases replies : r.replies with
  | nil => simp [Port.takeItem, replies]
  | cons e es => cases state : e.state <;> simp [Port.takeItem, replies, state]

/-- A flush gives WAITING entries a status without data (R134). -/
@[simp] theorem Port.flushed_readBeats (r : Port) : r.flushed.readBeats = r.readBeats := by
  simp only [Port.readBeats_eq, Port.flushed, replyBeats_beginDelivery]
  refine replyBeats_map (fun e => ?_) _
  split
  · rename_i flushes
    simp only [Port.flushes, Bool.and_eq_true, decide_eq_true_eq] at flushes
    rw [flushes.1]
    rfl
  · rfl

/-! ### What a decision reads -/

/-- The conditions of R43, over the link and the slots. -/
theorem State.mayDecide_iff (s : State) :
    s.mayDecide = true ↔ s.link = .up ∧ (∀ i, (s.slot i).isSending = false)
      ∧ ∃ i, (s.slot i).isFree = true := by
  simp [mayDecide, linkIsUp, channelIdle, sendingSlot, lowestFree, List.find?_isSome, and_assoc]

/-- No decision is taken while a command is on the channel (R43). -/
theorem State.mayDecide_of_sending {s : State} {i : SlotId} (h : (s.slot i).isSending = true) :
    s.mayDecide = false := by
  by_contra may
  obtain ⟨_, idle, _⟩ := s.mayDecide_iff.1 (by simpa using may)
  simp [idle i] at h

/-- No decision is taken while the link is not UP (R43). -/
theorem State.mayDecide_of_link {s : State} (h : s.link ≠ .up) : s.mayDecide = false := by
  by_contra may
  exact h (s.mayDecide_iff.1 (by simpa using may)).1

/-- A decision reads the same of the two slots. -/
structure Slot.SameReads (x y : Slot) : Prop where
  command : y.command? = x.command?
  flight : y.inFlight? = x.inFlight?
  free : y.isFree = x.isFree
  sending : y.isSending = x.isSending

/-- A decision finds no head at the second port that it does not find at the first, and the same
read data. -/
structure Port.ReadsNoMore (r r' : Port) : Prop where
  heads : (r'.queue = r.queue ∧ r'.mode.grants = r.mode.grants
      ∧ r'.settings.inFlightLimit = r.settings.inFlightLimit) ∨ r'.queue = []
  beats : r'.readBeats = r.readBeats

/-- A decision on `t` reads what a decision on `s` does, less perhaps some queues, and but for the
occurrences. -/
structure State.ReadsNoMore (s t : State) : Prop where
  link : t.link = s.link
  active : t.active = s.active
  tick : t.frameTick = s.frameTick
  slots : ∀ i, (s.slot i).SameReads (t.slot i)
  ports : ∀ p, (s.port p).ReadsNoMore (t.port p)

theorem Slot.SameReads.refl (x : Slot) : x.SameReads x := ⟨rfl, rfl, rfl, rfl⟩

theorem Slot.SameReads.trans {x y z : Slot} (h : x.SameReads y) (h' : y.SameReads z) :
    x.SameReads z :=
  ⟨h'.command.trans h.command, h'.flight.trans h.flight, h'.free.trans h.free,
    h'.sending.trans h.sending⟩

theorem Port.ReadsNoMore.of_same {r r' : Port} (queue : r'.queue = r.queue)
    (mode : r'.mode.grants = r.mode.grants)
    (limit : r'.settings.inFlightLimit = r.settings.inFlightLimit)
    (beats : r'.readBeats = r.readBeats) : r.ReadsNoMore r' :=
  ⟨.inl ⟨queue, mode, limit⟩, beats⟩

theorem Port.ReadsNoMore.refl (r : Port) : r.ReadsNoMore r := .of_same rfl rfl rfl rfl

theorem Port.ReadsNoMore.trans {r r' r'' : Port} (h : r.ReadsNoMore r') (h' : r'.ReadsNoMore r'') :
    r.ReadsNoMore r'' := by
  obtain ⟨heads, beats⟩ := h
  obtain ⟨heads', beats'⟩ := h'
  refine ⟨?_, beats'.trans beats⟩
  rcases heads' with ⟨queue', mode', limit'⟩ | empty'
  · rcases heads with ⟨queue, mode, limit⟩ | empty
    · exact .inl ⟨queue'.trans queue, mode'.trans mode, limit'.trans limit⟩
    · exact .inr (queue'.trans empty)
  · exact .inr empty'

theorem State.ReadsNoMore.trans {s t u : State} (h : s.ReadsNoMore t) (h' : t.ReadsNoMore u) :
    s.ReadsNoMore u := by
  exact ⟨h'.link.trans h.link, h'.active.trans h.active, h'.tick.trans h.tick,
    fun i => (h.slots i).trans (h'.slots i), fun p => (h.ports p).trans (h'.ports p)⟩

/-- A state with the same link, frame, slots and ports. -/
theorem State.ReadsNoMore.of_same {s t : State}
    (same : t.link = s.link ∧ t.active = s.active ∧ t.frameTick = s.frameTick
      ∧ t.slots = s.slots ∧ t.ports = s.ports) : s.ReadsNoMore t := by
  obtain ⟨link, active, tick, slots, ports⟩ := same
  exact ⟨link, active, tick, fun i => by simpa only [slot, slots] using Slot.SameReads.refl _,
    fun p => by simpa only [port, ports] using Port.ReadsNoMore.refl _⟩

/-- A change of one port. -/
theorem State.ReadsNoMore.withPort {s : State} {p : PortId} {f : Port → Port}
    (h : (s.port p).ReadsNoMore (f (s.port p))) : s.ReadsNoMore (s.withPort p f) := by
  refine ⟨rfl, rfl, rfl, fun i => Slot.SameReads.refl _, fun q => ?_⟩
  rw [withPort_port]
  split
  · subst_vars
    exact h
  · exact .refl _

theorem State.ReadsNoMore.record (s : State) (o : Occasion) : s.ReadsNoMore (s.record o) :=
  .of_same (by simp)

/-- A drain check halts only a port whose queue is empty. -/
theorem State.ReadsNoMore.drainCheck (s : State) (p : PortId) : s.ReadsNoMore (s.drainCheck p) := by
  rcases s.drainCheck_cases p with same | ⟨-, empty, -, halted⟩
  · rw [same]
    exact .of_same (by simp)
  · rw [halted]
    exact (withPort ⟨.inr empty, rfl⟩).trans (record _ _)

/-- The read store beats in use, where every slot and port holds the same. -/
theorem State.ReadsNoMore.readStoreUsed {s t : State} (h : s.ReadsNoMore t) :
    t.readStoreUsed = s.readStoreUsed := by
  have slotBeats : ∀ i, (look t.slots i).readBeats = (look s.slots i).readBeats := fun i => by
    have flight : (look t.slots i).inFlight? = (look s.slots i).inFlight? := (h.slots i).flight
    simp only [Slot.readBeats, flight]
  have portBeats : ∀ p, (look t.ports p).readBeats = (look s.ports p).readBeats :=
    fun p => (h.ports p).beats
  simp only [State.readStoreUsed, toList_eq_map_look, List.map_map, Function.comp_def, slotBeats,
    portBeats]

/-- The tests of a head, where a decision reads no more. -/
theorem State.ReadsNoMore.grantableHead {s t : State} (h : s.ReadsNoMore t) {p : PortId}
    {q : QueuedRequest} (head : t.grantableHead p = some q) : s.grantableHead p = some q := by
  have store := h.readStoreUsed
  have conflicts : ∀ i, (look t.slots i).conflicts q.block q.kind
      = (look s.slots i).conflicts q.block q.kind := fun i => by
    have command : (look t.slots i).command? = (look s.slots i).command? := (h.slots i).command
    unfold Slot.conflicts
    rw [command]
  have flights : ∀ i, (look t.slots i).inFlightFor p = (look s.slots i).inFlightFor p := fun i => by
    have flight : (look t.slots i).inFlight? = (look s.slots i).inFlight? := (h.slots i).flight
    unfold Slot.inFlightFor
    rw [flight]
  have conflict : t.conflict q.block q.kind = s.conflict q.block q.kind := by
    simp only [State.conflict, toList_eq_map_look, List.any_map, Function.comp_def, conflicts]
  have count : t.inFlightCount p = s.inFlightCount p := by
    simp only [State.inFlightCount, toList_eq_map_look, List.countP_map, Function.comp_def, flights]
  obtain ⟨rest, queue', -⟩ := queue_of_grantableHead head
  rcases (h.ports p).heads with ⟨queue, mode, limit⟩ | empty
  · have passes : t.passes p q = s.passes p q := by
      unfold State.passes readStoreFree
      rw [conflict, count, mode, limit, store]
    rw [queue] at queue'
    simpa only [State.grantableHead, queue, queue', passes] using head
  · rw [empty] at queue'
    cases queue'

/-- The window that a decision finds short, where a decision reads no more. -/
theorem State.ReadsNoMore.shortWindow {s t : State} (h : s.ReadsNoMore t) (beats : s.SameBeats t)
    {w : WindowId} (short : t.shortWindow = some w) : s.shortWindow = some w := by
  have position : t.position = s.position := by simp only [State.position, h.active, h.tick]
  unfold State.shortWindow at short ⊢
  rw [position, h.active] at short
  split at short
  · cases short
  · rename_i v at_
    split at short
    · rename_i q head
      obtain ⟨mark, hv⟩ := beats v
      have small : (t.occurrence v).tooSmallFor q.length
          = (s.occurrence v).tooSmallFor q.length := by
        rw [hv]
        rfl
      rw [small] at short
      simpa only [at_, h.grantableHead head] using short
    · cases short
  · cases short

theorem State.ReadsNoMore.mayDecide {s t : State} (h : s.ReadsNoMore t)
    (may : t.mayDecide = true) : s.mayDecide = true := by
  obtain ⟨up, idle, i, free⟩ := t.mayDecide_iff.1 may
  exact s.mayDecide_iff.2
    ⟨h.link ▸ up, fun j => (h.slots j).sending ▸ idle j, i, (h.slots i).free ▸ free⟩

/-! ### A decision that is taken -/

/-- A decision stays taken where it reads no more, on the same occurrences. -/
theorem State.DecisionTaken.of_reads {s t : State} (h : s.DecisionTaken) (reads : s.ReadsNoMore t)
    (same : t.occurrences = s.occurrences) : t.DecisionTaken := by
  intro may w short
  have occurrence : t.occurrence w = s.occurrence w := by simp only [occurrence, same]
  rw [occurrence]
  exact h (reads.mayDecide may) w
    (reads.shortWindow (.of_eq fun v => by simp only [State.occurrence, same]) short)

/-- No decision is outstanding where none may be taken. -/
theorem State.decisionTaken_of_not_may {s : State} (h : s.mayDecide = false) : s.DecisionTaken :=
  fun may => absurd may (by simp [h])

/-- A decision that is taken is taken. -/
theorem State.takeDecision_decisionTaken (s : State) : s.takeDecision.DecisionTaken := by
  intro may w short isOpen
  have reads : s.ReadsNoMore s.takeDecision := .of_same (by simp)
  have may' := reads.mayDecide may
  have short' := reads.shortWindow s.takeDecision_sameBeats short
  have marked : s.takeDecision = s.markSpent w := by simp [State.takeDecision, may', short']
  rw [marked] at isOpen ⊢
  rcases s.markSpent_cases w with ⟨same, closed | spent⟩ | ⟨-, -, marks⟩
  · rw [same] at isOpen
    exact absurd isOpen (by simp [closed])
  · rw [same]
    exact spent
  · simp [marks]

/-- A state that a decision was just taken on. -/
theorem State.decisionTaken_of_eq {s t : State} (h : t = s.takeDecision) : t.DecisionTaken :=
  h ▸ s.takeDecision_decisionTaken

/-! ### The events after which no decision is taken -/

/-- An arrival that is not queued leaves every head as it was. -/
theorem State.DecisionTaken.arrive {s : State} (h : s.DecisionTaken) (p : PortId) (r : Request) :
    (s.arrive p r).DecisionTaken := by
  unfold State.arrive
  dsimp only
  split
  · refine h.of_reads ((State.ReadsNoMore.withPort ?_).trans (.record _ _)) (by simp)
    exact .of_same rfl rfl rfl (Port.appendReply_readBeats _ _ rfl)
  · have reads : s.ReadsNoMore (s.withPort p fun port =>
        (port.appendReply r (.ready .refused [])).countRefusal) :=
      .withPort (.of_same rfl rfl rfl (Port.appendReply_readBeats _ _ rfl))
    exact h.of_reads (reads.trans (.of_same (by simp))) (by simp)
  · exact takeDecision_decisionTaken _

theorem State.DecisionTaken.expireSlot {s : State} (h : s.DecisionTaken) (i : SlotId) :
    (s.expireSlot i).DecisionTaken := by
  rcases s.expireSlot_cases i with same | ⟨c, d, -, expired⟩ | ⟨c, d, beats, -, expired⟩
  · rwa [same]
  · exact decisionTaken_of_eq expired
  · exact decisionTaken_of_eq expired

/-- A beat that stays in the slot's reservation, or turns the channel to DISCARD, frees nothing. -/
theorem State.DecisionTaken.dataBeat {s : State} (h : s.DecisionTaken) {i : SlotId} {c : Command}
    {d : Deadline} {beats : List BeatData} (slot : s.slot i = .receiving c d beats)
    (data : BeatData) (last : Bool) : (s.dataBeat i c d beats data last).DecisionTaken := by
  unfold State.dataBeat
  repeat' split
  · exact takeDecision_decisionTaken _
  · exact takeDecision_decisionTaken _
  · refine h.of_reads ⟨rfl, rfl, rfl, fun j => ?_, fun p => Port.ReadsNoMore.refl _⟩ rfl
    rw [withSlot_slot]
    split
    · subst_vars
      rw [slot]
      exact ⟨rfl, rfl, rfl, rfl⟩
    · exact .refl _
  · exact takeDecision_decisionTaken _
  · exact h.of_reads (.of_same (by simp)) rfl

/-- The end of a completion frees a slot, or leaves slots and ports alone. -/
theorem State.endCompletion_cases (s : State) (i : SlotId) :
    ((s.endCompletion i).slots = s.slots ∧ (s.endCompletion i).ports = s.ports)
    ∨ (s.slot i ≠ .free ∧ (s.endCompletion i).slot i = .free) := by
  cases slot : s.slot i <;> simp [endCompletion, slot, mismatch, lateEnd]

/-- A header that ends a completion frees a slot, or leaves slots and ports alone. -/
theorem State.interrupt_cases (s : State) :
    (s.interrupt.slots = s.slots ∧ s.interrupt.ports = s.ports)
    ∨ ∃ j, s.slot j ≠ .free ∧ s.interrupt.slot j = .free := by
  unfold interrupt
  split
  · exact .inl ⟨rfl, rfl⟩
  · exact (s.endCompletion_cases _).imp_right fun h => ⟨_, h⟩
  · exact (s.endCompletion_cases _).imp_right fun h => ⟨_, h⟩
  · exact .inl ⟨rfl, rfl⟩

/-- A header of a slot that is not FREE changes that slot, or leaves slots and ports alone. -/
theorem State.classifyHeader_cases (s : State) (i : SlotId) (kind : Kind) (status : MemStatus) :
    ((s.classifyHeader i kind status).slots = s.slots
      ∧ (s.classifyHeader i kind status).ports = s.ports)
    ∨ (s.slot i ≠ .free ∧ (s.classifyHeader i kind status).slot i ≠ s.slot i
        ∧ ∀ j ≠ i, (s.classifyHeader i kind status).slot j = s.slot j) := by
  have stray : (s.strayHeader i kind status).slots = s.slots
      ∧ (s.strayHeader i kind status).ports = s.ports := by simp [strayHeader]
  unfold classifyHeader
  split
  · exact .inl stray
  · exact .inl stray
  · exact .inl stray
  · split
    · unfold lateHeader
      split
      · exact .inl ⟨rfl, rfl⟩
      · right
        simp +contextual [lateEnd, withSlot_slot, *]
    · exact .inl stray
  · split
    · right
      unfold issuedHeader
      repeat' split
      all_goals simp +contextual [faultCompletion, withSlot_slot, *]
    · exact .inl stray

/-- A header that leaves every slot as it was leaves the ports too. -/
theorem State.ports_of_header {s : State} {i : SlotId} {kind : Kind} {status : MemStatus}
    (same : (s.interrupt.classifyHeader i kind status).slots = s.slots) :
    (s.interrupt.classifyHeader i kind status).ports = s.ports := by
  have sameAt : ∀ j, (s.interrupt.classifyHeader i kind status).slot j = s.slot j := fun j => by
    simp only [slot, same]
  rcases s.interrupt.classifyHeader_cases i kind status with ⟨slots, ports⟩ | ⟨held, moved, others⟩
  · rcases s.interrupt_cases with ⟨-, ports'⟩ | ⟨j, taken, freed⟩
    · exact ports.trans ports'
    · have stays : s.slot j = .free := by rw [← sameAt j, ← freed]; simp only [slot, slots]
      exact absurd stays taken
  · rcases s.interrupt_cases with ⟨slots', -⟩ | ⟨j, taken, freed⟩
    · exact absurd (sameAt i) (by simpa only [slot, slots'] using moved)
    · have other : j ≠ i := fun h => held (h ▸ freed)
      exact absurd ((sameAt j).symm.trans ((others j other).trans freed)) taken

/-- A grant with a head and a FREE slot to take. -/
theorem State.grant_eq {s : State} {p : PortId} {course : Course} {i : SlotId} {q : QueuedRequest}
    {rest : List QueuedRequest} (free : s.lowestFree = some i)
    (queue : (s.port p).queue = q :: rest) :
    s.grant p course
      = (((s.withPort p (Port.granted q rest i course)).withSlot i
          (.sending (q.command p) q.share 0 false)).account course q.length).drainCheck p := by
  simp [State.grant, free, queue]

/-- After the decision that names a port, its head still passes and a slot is FREE to take it. -/
theorem State.grantable_of_decision {s : State} {p : PortId} {course : Course}
    (may : s.mayDecide = true) (named : s.decision = some (p, course)) :
    ∃ i q rest, s.takeDecision.lowestFree = some i ∧ (s.takeDecision.port p).queue = q :: rest
      ∧ s.takeDecision.passes p q = true := by
  obtain ⟨q, head⟩ := head_of_decision named
  have reads : s.takeDecision.ReadsNoMore s := .of_same (by simp)
  obtain ⟨rest, queue, passes⟩ := queue_of_grantableHead (reads.grantableHead head)
  simp only [State.mayDecide, Bool.and_eq_true] at may
  obtain ⟨i, free⟩ := Option.isSome_iff_exists.1 may.2
  exact ⟨i, q, rest, by simpa only [lowestFree, takeDecision_rest] using free, queue, passes⟩

/-- A grant puts its command on the channel, and no decision is taken until it has left. -/
theorem State.grant_decisionTaken {s : State} {p : PortId} {course : Course}
    (may : s.mayDecide = true) (named : s.decision = some (p, course)) :
    (s.takeDecision.grant p course).DecisionTaken := by
  obtain ⟨i, q, rest, free, queue, -⟩ := grantable_of_decision may named
  refine decisionTaken_of_not_may (mayDecide_of_sending (i := i) ?_)
  simp [grant_eq free queue, Slot.isSending]

/-- A management command leaves the decision taken. Where it lets a port grant again, the port's
queue is empty (R131). -/
theorem Performed.decisionTaken {s t : State} (e : Performed s t) (still : s.StillPortsEmpty)
    (h : s.DecisionTaken) : t.DecisionTaken := by
  cases e with
  | unchanged => exact h
  | stored f v writable unlocked inRange =>
    unfold State.storeField
    split
    · exact State.takeDecision_decisionTaken _
    · rename_i unread
      refine h.of_reads (.of_same ?_) (by simp)
      cases f with
      | port p f => exact absurd rfl unread
      | global f =>
        cases f with
        | threshold => exact absurd rfl unread
        | _ => simp [State.withField, State.withGlobalField]
      | _ => simp [State.withField]
  | cleared f clearable =>
    cases f with
    | counter p f =>
      have reads : s.ReadsNoMore
          (s.withPort p fun r => { r with counters := r.counters.cleared f }) :=
        .withPort (.of_same rfl rfl rfl rfl)
      exact h.of_reads reads rfl
    | status f => cases f <;> exact h.of_reads (.of_same (by simp [State.clearField])) (by simp)
    | _ => exact h
  | enabled p mode =>
    refine h.of_reads (.withPort ?_) rfl
    rcases mode with draining | halted
    · exact .of_same rfl (by simp [draining, PortMode.grants]) rfl rfl
    · exact ⟨.inr (still p (by simp [halted, PortMode.isStill])).1, rfl⟩
  | drained p mode =>
    refine h.of_reads (State.ReadsNoMore.trans (.withPort ?_) (.drainCheck _ p))
      (by simp [State.withMode])
    exact .of_same rfl (by simp [mode, PortMode.grants]) rfl rfl
  | flushed p mode =>
    have reads : s.ReadsNoMore (s.withPort p Port.flushed) :=
      .withPort ⟨.inr rfl, Port.flushed_readBeats _⟩
    exact h.of_reads ((reads.trans (.of_same (by simp))).trans (.drainCheck _ p)) (by simp)
  | countersCleared p => exact h.of_reads (.withPort (.of_same rfl rfl rfl rfl)) rfl
  | restarted up =>
    refine State.decisionTaken_of_not_may (State.mayDecide_of_link ?_)
    simp [State.takeLinkDown]
  | restarting down =>
    exact State.decisionTaken_of_not_may (State.mayDecide_of_link (by simp))
  | reset =>
    refine State.decisionTaken_of_not_may (State.mayDecide_of_link ?_)
    simp [State.resetBlocks, State.reset]
  | _ => exact h.of_reads (.of_same (by simp)) rfl

/-- Everything a command can do leaves the decision taken. -/
theorem Effect.decisionTaken {s t : State} (e : Effect s t) (still : s.StillPortsEmpty)
    (h : s.DecisionTaken) : t.DecisionTaken := by
  cases e with
  | tickEnded running =>
    exact State.expireAll_keeps (P := State.DecisionTaken) (fun t i taken => taken.expireSlot i) _ _
      (State.takeDecision_decisionTaken _)
  | arrived p r takes => exact h.arrive p r
  | granted p course may named => exact State.grant_decisionTaken may named
  | itemTaken i c share taken mark running slot more =>
    refine State.decisionTaken_of_not_may (State.mayDecide_of_sending (i := i) ?_)
    simp [Slot.isSending]
  | headerTaken i kind status running up =>
    unfold State.decideAfter
    split
    · rename_i same
      exact h.of_reads (.of_same (by simp [same, State.ports_of_header same])) (by simp)
    · exact State.takeDecision_decisionTaken _
  | dataBeat i c d beats data last running up channel slot => exact h.dataBeat slot data last
  | expired i running ends =>
    have reached : s.reachTickEnd.DecisionTaken := h.of_reads (.of_same (by simp)) (by simp)
    exact reached.expireSlot i
  | linkDown running up =>
    refine State.decisionTaken_of_not_may (State.mayDecide_of_link ?_)
    simp [State.takeLinkDown]
  | replyItemTaken p running more =>
    exact h.of_reads (.withPort (.of_same (by simp) (by simp) (by simp) (by simp))) rfl
  | resetLevel p level idle => exact h.of_reads (.withPort (.of_same rfl rfl rfl rfl)) rfl
  | portReleased p x report running mode =>
    have empty := (still p (by simp [mode, PortMode.isStill])).1
    unfold State.releasePort
    dsimp only
    split
    · exact h.of_reads (State.ReadsNoMore.trans (.withPort ⟨.inr empty, rfl⟩) (.record _ _))
        (by simp)
    · exact h.of_reads (.withPort ⟨.inr empty, rfl⟩) rfl
  | resetAsserted running =>
    exact State.decisionTaken_of_not_may (State.mayDecide_of_link (by simp))
  | resetReleased standing =>
    refine State.decisionTaken_of_not_may (State.mayDecide_of_link ?_)
    simp [State.resetBlocks, State.reset]
  | managed t r running performed =>
    exact (performed.decisionTaken still h).of_reads (.of_same (by simp [answered])) rfl
  | decided | transferEnded | discardEnded | linkUp | deliveryEnded | portReset =>
    exact State.takeDecision_decisionTaken _
  | _ => exact h.of_reads (.of_same (by simp [State.strayBeat])) (by simp [State.strayBeat])

/-- Settles O27, over the cases of what a step can do. -/
theorem decisionTakenKept : Obligations.DecisionTakenKept := by
  intro s t still h stepped
  rcases step_effect stepped with e | ⟨c, cs, -, e⟩
  · exact e.decisionTaken still h
  · exact e.decisionTaken (s := s.withPending cs) still (h.of_reads (.of_same (by simp)) rfl)

end Sys2Proof.Machine
end

section
/-! SUPPORT and PROOFS. The capacities: the sums over a row after a change of one place, one rule
per operation on the state, and that every step keeps every list, count and store within its
capacity. -/

namespace Sys2Proof

variable {α : Type} {n : Nat}

/-! ### Sums over a row -/

theorem sum_row (v : Vector α n) (f : α → Nat) :
    (v.toList.map f).sum = ∑ i, f (look v i) := by
  rw [toList_eq_map_look, List.map_map, Fin.sum_univ_def]
  rfl

theorem countP_eq_sum (l : List α) (p : α → Bool) :
    l.countP p = (l.map fun x => (p x).toNat).sum := by
  induction l with
  | nil => rfl
  | cons x xs ih => cases hx : p x <;> simp [hx, ih, Nat.add_comm]

/-- A sum over a row after one place was put: what stood there goes, what was put comes. -/
theorem sum_put (v : Vector α n) (i : Fin n) (x : α) (f : α → Nat) :
    ((put v i x).toList.map f).sum + f (look v i) = (v.toList.map f).sum + f x := by
  have others : ∑ j ∈ Finset.univ.erase i, f (look (put v i x) j)
      = ∑ j ∈ Finset.univ.erase i, f (look v j) :=
    Finset.sum_congr rfl fun j hj => by rw [look_put_of_ne v x (Finset.ne_of_mem_erase hj)]
  rw [sum_row, sum_row, ← Finset.add_sum_erase _ _ (Finset.mem_univ i), others, look_put_same,
    ← Finset.add_sum_erase _ (fun j => f (look v j)) (Finset.mem_univ i)]
  omega

/-- A sum over a row is at most that over a row that is at least as great at each place. -/
theorem sum_row_le {v w : Vector α n} {f : α → Nat} (h : ∀ i, f (look w i) ≤ f (look v i)) :
    (w.toList.map f).sum ≤ (v.toList.map f).sum := by
  rw [sum_row, sum_row]
  exact Finset.sum_le_sum fun i _ => h i

end Sys2Proof

namespace Sys2Proof.Machine

/-! ### The stores and the in-flight counts after a change of one place -/

theorem State.writeStoreUsed_withPort (s : State) (p : PortId) (f : Port → Port) :
    (s.withPort p f).writeStoreUsed + (s.port p).writeBeats
      = s.writeStoreUsed + (f (s.port p)).writeBeats := by
  have sum := sum_put s.ports p (f (s.port p)) Port.writeBeats
  simp only [writeStoreUsed, withPort, port] at sum ⊢
  omega

theorem State.readStoreUsed_withPort (s : State) (p : PortId) (f : Port → Port) :
    (s.withPort p f).readStoreUsed + (s.port p).readBeats
      = s.readStoreUsed + (f (s.port p)).readBeats := by
  have sum := sum_put s.ports p (f (s.port p)) Port.readBeats
  simp only [readStoreUsed, withPort, port] at sum ⊢
  omega

theorem State.writeStoreUsed_withSlot (s : State) (i : SlotId) (x : Slot) :
    (s.withSlot i x).writeStoreUsed + (s.slot i).writeBeats = s.writeStoreUsed + x.writeBeats := by
  have sum := sum_put s.slots i x Slot.writeBeats
  simp only [writeStoreUsed, withSlot, slot] at sum ⊢
  omega

theorem State.readStoreUsed_withSlot (s : State) (i : SlotId) (x : Slot) :
    (s.withSlot i x).readStoreUsed + (s.slot i).readBeats = s.readStoreUsed + x.readBeats := by
  have sum := sum_put s.slots i x Slot.readBeats
  simp only [readStoreUsed, withSlot, slot] at sum ⊢
  omega

theorem State.inFlightCount_withSlot (s : State) (i : SlotId) (x : Slot) (p : PortId) :
    (s.withSlot i x).inFlightCount p + ((s.slot i).inFlightFor p).toNat
      = s.inFlightCount p + (x.inFlightFor p).toNat := by
  simp only [inFlightCount, countP_eq_sum]
  exact sum_put s.slots i x fun y => (y.inFlightFor p).toNat

@[simp] theorem State.inFlightCount_withPort (s : State) (p q : PortId) (f : Port → Port) :
    (s.withPort p f).inFlightCount q = s.inFlightCount q := rfl

/-! ### Places that hold no more -/

/-- The second slot holds no more than the first: no deadline count out of range, no command in
flight that was not, and no more beats of either store. -/
structure Slot.Within (x y : Slot) : Prop where
  deadline : x.countInRange = true → y.countInRange = true
  flight : ∀ p, y.inFlightFor p = true → x.inFlightFor p = true
  write : y.writeBeats ≤ x.writeBeats
  read : y.readBeats ≤ x.readBeats

/-- The second port holds no more than the first. -/
structure Port.Within (r r' : Port) : Prop where
  fits : r.Capacity → r'.Capacity
  write : r'.writeBeats ≤ r.writeBeats
  read : r'.readBeats ≤ r.readBeats

theorem Slot.Within.refl (x : Slot) : x.Within x := ⟨id, fun _ => id, le_rfl, le_rfl⟩

theorem Port.Within.refl (r : Port) : r.Within r := ⟨id, le_rfl, le_rfl⟩

/-- A FREE slot holds nothing. -/
theorem Slot.within_free (x : Slot) : x.Within .free :=
  ⟨fun _ => rfl, fun _ h => absurd h (by simp [inFlightFor, inFlight?]), Nat.zero_le _,
    Nat.zero_le _⟩

/-- An ORPHANED slot counts for no port and reserves nothing (R79). -/
theorem Slot.within_orphaned (x : Slot) (c : Command) : x.Within (.orphaned c) :=
  ⟨fun _ => rfl, fun _ h => absurd h (by simp [inFlightFor, inFlight?]), Nat.zero_le _,
    Nat.zero_le _⟩

theorem Slot.within_countDown (x : Slot) : x.Within x.countDown := by
  have inRange : ∀ d : Deadline, d.inRange = true → d.countDown.inRange = true := by
    intro d hd
    cases d with
    | absent => rfl
    | ticks left =>
      simp only [Deadline.inRange, Bool.and_eq_true, decide_eq_true_eq] at hd
      unfold Deadline.countDown
      dsimp only
      split
      · simp only [Deadline.inRange, Bool.and_eq_true, decide_eq_true_eq]
        omega
      · rfl
  cases x with
  | issued c d => exact ⟨inRange d, fun _ => id, le_rfl, le_rfl⟩
  | receiving c d beats => exact ⟨inRange d, fun _ => id, le_rfl, le_rfl⟩
  | _ => exact .refl _

theorem Slot.within_portReset (p : PortId) (x : Slot) : x.Within (x.portReset p) := by
  cases x with
  | issued c d =>
    unfold portReset
    dsimp only
    split
    · exact within_orphaned _ c
    · exact .refl _
  | receiving c d beats =>
    unfold portReset
    dsimp only
    split
    · exact within_orphaned _ c
    · exact .refl _
  | sending c share taken mark => exact ⟨id, fun _ => id, le_rfl, le_rfl⟩
  | _ => exact .refl _

/-- A slot after its transfer: the deadline it loads is absent or in its range (R69, R116). -/
theorem State.within_transferred (s : State) (c : Command) (share : Option (List WriteBeat))
    (taken : Nat) (mark mark' : Bool) :
    (Slot.sending c share taken mark').Within (s.transferred c mark) := by
  unfold transferred
  split
  · exact Slot.within_orphaned _ c
  · refine ⟨fun _ => ?_, fun _ => id, Nat.zero_le _, le_rfl⟩
    unfold Slot.countInRange loadedDeadline
    dsimp only
    split
    · rfl
    · rename_i loaded
      have pos : s.deadline.toNat ≠ 0 := fun h => loaded (BitVec.eq_of_toNat_eq h)
      simp only [Deadline.inRange, Bool.and_eq_true, decide_eq_true_eq]
      omega

/-- A port whose queue and replies are no longer and hold no more beats. -/
theorem Port.within_of_le {r r' : Port} (queue : r'.queue.length ≤ r.queue.length)
    (replies : r'.replies.length ≤ r.replies.length)
    (limit : r'.settings.inFlightLimit = r.settings.inFlightLimit)
    (write : r'.writeBeats ≤ r.writeBeats) (read : r'.readBeats ≤ r.readBeats) : r.Within r' := by
  refine ⟨fun h => ?_, write, read⟩
  obtain ⟨queueFits, repliesFit, low, high⟩ := h
  exact ⟨queue.trans queueFits, replies.trans repliesFit, limit ▸ low, limit ▸ high⟩

theorem Port.within_flushed (r : Port) : r.Within r.flushed :=
  within_of_le (by simp [flushed]) (by simp [flushed]) rfl (by simp [flushed, writeBeats])
    (by simp)

theorem Port.within_takeItem (r : Port) : r.Within r.takeItem :=
  within_of_le (by simp) (by simp) (by simp) (by simp [writeBeats]) (by simp)

/-- A replacement of one entry by one with data `data` adds at most that data. -/
theorem replyBeats_settled_le (isIt : ReplyEntry → Bool) (status : ReplyStatus)
    (data : List BeatData) (l : List ReplyEntry) :
    replyBeats (updateFirst isIt (fun e => { e with state := .ready status data }) l)
      ≤ replyBeats l + data.length := by
  induction l with
  | nil => simp [updateFirst]
  | cons e es ih =>
    simp only [updateFirst]
    split
    · simp only [replyBeats_cons, EntryState.data]
      omega
    · simp only [replyBeats_cons]
      omega

/-! ### One rule per operation on the state -/

/-- The occurrence and usage records, the event queue and the drop count lie in their ranges. -/
def State.RecordsInRange (s : State) : Prop :=
  (∀ w, (s.occurrence w).InRange ∧ (look s.usage w).InRange)
    ∧ s.events.length ≤ Config.eventCapacity ∧ s.dropCount ≤ Config.dropLimit

theorem State.Capacities.records {s : State} (h : s.Capacities) : s.RecordsInRange := by
  obtain ⟨_, counts, _, _, events, drops, _, _⟩ := h
  exact ⟨counts, events, drops⟩

/-- Where every slot and port holds no more, the capacities stand. -/
theorem State.Capacities.of_within {s t : State} (h : s.Capacities)
    (ports : ∀ p, (s.port p).Within (t.port p)) (slots : ∀ i, (s.slot i).Within (t.slot i))
    (records : t.RecordsInRange) : t.Capacities := by
  obtain ⟨portsFit, _, deadlines, flights, _, _, write, read⟩ := h
  obtain ⟨counts, events, drops⟩ := records
  refine ⟨fun p => (ports p).fits (portsFit p), counts, fun i => (slots i).deadline (deadlines i),
    fun p => ?_, events, drops, ?_, ?_⟩
  · refine le_trans ?_ (flights p)
    simp only [inFlightCount, countP_eq_sum]
    refine sum_row_le fun i => ?_
    have imp : (look t.slots i).inFlightFor p = true → (look s.slots i).inFlightFor p = true :=
      (slots i).flight p
    exact Bool.toNat_le_toNat imp
  · exact le_trans (Nat.add_le_add (sum_row_le fun p => (ports p).write)
      (sum_row_le fun i => (slots i).write)) write
  · exact le_trans (Nat.add_le_add (sum_row_le fun i => (slots i).read)
      (sum_row_le fun p => (ports p).read)) read

/-- Where the slots and the ports are the same, only the records matter. -/
theorem State.Capacities.of_same {s t : State} (h : s.Capacities) (ports : t.ports = s.ports)
    (slots : t.slots = s.slots) (records : t.RecordsInRange) : t.Capacities :=
  h.of_within (fun p => by simpa only [port, ports] using Port.Within.refl _)
    (fun i => by simpa only [slot, slots] using Slot.Within.refl _) records

/-- A change of one port that finds room for what it adds. -/
theorem State.Capacities.withPort {s : State} (h : s.Capacities) {p : PortId} {f : Port → Port}
    (fits : (s.port p).Capacity → (f (s.port p)).Capacity)
    (write : (f (s.port p)).writeBeats ≤ (s.port p).writeBeats + s.writeStoreFree)
    (read : (f (s.port p)).readBeats ≤ (s.port p).readBeats + s.readStoreFree) :
    (s.withPort p f).Capacities := by
  obtain ⟨portsFit, counts, deadlines, flights, events, drops, writeFits, readFits⟩ := h
  have writeSum := s.writeStoreUsed_withPort p f
  have readSum := s.readStoreUsed_withPort p f
  unfold writeStoreFree at write
  unfold readStoreFree at read
  refine ⟨fun q => ?_, counts, deadlines, flights, events, drops, by omega, by omega⟩
  rw [withPort_port]
  split
  · exact fits (portsFit p)
  · exact portsFit q

theorem State.Capacities.withPort_within {s : State} (h : s.Capacities) {p : PortId}
    {f : Port → Port} (within : (s.port p).Within (f (s.port p))) :
    (s.withPort p f).Capacities := by
  exact h.withPort within.fits (within.write.trans (Nat.le_add_right _ _))
    (within.read.trans (Nat.le_add_right _ _))

/-- A change of one slot that finds room for what it adds. -/
theorem State.Capacities.withSlot {s : State} (h : s.Capacities) {i : SlotId} {x : Slot}
    (deadline : (s.slot i).countInRange = true → x.countInRange = true)
    (flight : ∀ p, x.inFlightFor p = true →
      (s.slot i).inFlightFor p = true ∨ s.inFlightCount p < 16)
    (write : x.writeBeats ≤ (s.slot i).writeBeats + s.writeStoreFree)
    (read : x.readBeats ≤ (s.slot i).readBeats + s.readStoreFree) :
    (s.withSlot i x).Capacities := by
  obtain ⟨portsFit, counts, deadlines, flights, events, drops, writeFits, readFits⟩ := h
  have writeSum := s.writeStoreUsed_withSlot i x
  have readSum := s.readStoreUsed_withSlot i x
  unfold writeStoreFree at write
  unfold readStoreFree at read
  refine ⟨portsFit, counts, fun j => ?_, fun p => ?_, events, drops, by omega, by omega⟩
  · rw [withSlot_slot]
    split
    · exact deadline (deadlines i)
    · exact deadlines j
  · have sum := s.inFlightCount_withSlot i x p
    have old := flights p
    cases new : x.inFlightFor p with
    | false =>
      simp only [new, Bool.toNat_false] at sum
      omega
    | true =>
      rcases flight p new with was | room
      · simp only [new, was] at sum
        omega
      · simp only [new, Bool.toNat_true] at sum
        omega

theorem State.Capacities.withSlot_within {s : State} (h : s.Capacities) {i : SlotId} {x : Slot}
    (within : (s.slot i).Within x) : (s.withSlot i x).Capacities := by
  exact h.withSlot within.deadline (fun p hp => .inl (within.flight p hp))
    (within.write.trans (Nat.le_add_right _ _)) (within.read.trans (Nat.le_add_right _ _))

theorem State.Capacities.record {s : State} (h : s.Capacities) (o : Occasion) :
    (s.record o).Capacities := by
  obtain ⟨counts, events, drops⟩ := h.records
  exact h.of_same (by simp) (by simp)
    ⟨by simpa using counts, s.record_events_le o events, s.record_dropCount_le o drops⟩

theorem State.Capacities.recordAll {s : State} (h : s.Capacities) (os : List Occasion) :
    (s.recordAll os).Capacities := by
  induction os generalizing s with
  | nil => exact h
  | cons o os ih => exact ih (h.record o)

theorem State.Capacities.withChannel {s : State} (h : s.Capacities) (c : CompletionChannel) :
    (s.withChannel c).Capacities := h

/-- A change of one occurrence record that keeps its counts in their ranges. -/
theorem State.Capacities.withOccurrence {s : State} (h : s.Capacities) {w : WindowId}
    {f : Occurrence → Occurrence}
    (inRange : (s.occurrence w).InRange → (f (s.occurrence w)).InRange) :
    (s.withOccurrence w f).Capacities := by
  obtain ⟨counts, events, drops⟩ := h.records
  refine h.of_same rfl rfl ⟨fun v => ⟨?_, (counts v).2⟩, events, drops⟩
  by_cases hv : v = w
  · subst hv
    rw [withOccurrence_occurrence_same]
    exact inRange (counts v).1
  · rw [withOccurrence_occurrence_of_ne _ _ hv]
    exact (counts v).1

theorem State.Capacities.takeDecision {s : State} (h : s.Capacities) :
    s.takeDecision.Capacities := by
  rcases s.takeDecision_cases with ⟨same, -⟩ | ⟨w, -, -, marks⟩
  · rwa [same]
  · rcases s.markSpent_cases w with ⟨same, -⟩ | ⟨-, -, marked⟩
    · rwa [marks, same]
    · rw [marks, marked]
      exact (h.withOccurrence id).record _

theorem State.Capacities.decideAfter {t : State} (h : t.Capacities) (s : State) :
    (t.decideAfter s).Capacities := by
  unfold State.decideAfter
  split
  · exact h
  · exact h.takeDecision

theorem State.Capacities.drainCheck {s : State} (h : s.Capacities) (p : PortId) :
    (s.drainCheck p).Capacities := by
  rcases s.drainCheck_cases p with same | ⟨-, -, -, halted⟩
  · rwa [same]
  · rw [halted]
    exact (h.withPort_within (Port.within_of_le le_rfl le_rfl rfl le_rfl le_rfl)).record _

theorem State.Capacities.ruleHit {s : State} (h : s.Capacities) (p : PortId) (r : Request)
    (q : Sequence) (refused : Bool) (k : Option RuleId) :
    (s.ruleHit p r q refused k).Capacities := by
  cases k with
  | none => exact h
  | some k => exact h.record _

/-- The settling of an entry whose data finds room in the read store (R94). -/
theorem State.Capacities.settleSlot {s : State} (h : s.Capacities) (i : SlotId) (c : Command)
    (status : ReplyStatus) {data : List BeatData} (room : data.length ≤ s.readStoreFree) :
    (s.settleSlot i c status data).Capacities := by
  unfold State.settleSlot
  split
  · exact h
  · refine h.withPort (fun fits => ?_) (Nat.le_add_right _ _) ?_
    · simpa [Port.Capacity] using fits
    · have grown := replyBeats_settled_le (linkedToSlot i c) status data (s.port c.port).replies
      simp only [Port.readBeats_eq, replyBeats_beginDelivery]
      omega

/-- The settling of an entry with no data (R94). -/
theorem State.Capacities.settleSlot_nil {s : State} (h : s.Capacities) (i : SlotId) (c : Command)
    (status : ReplyStatus) : (s.settleSlot i c status []).Capacities :=
  h.settleSlot i c status (Nat.zero_le _)

/-! ### Accounting and the frame -/

theorem Occurrence.charge_inRange {o : Occurrence} (h : o.InRange) (n : Nat) :
    (o.charge n).InRange := by
  obtain ⟨remaining, charged, lent⟩ := h
  unfold charge
  split
  · refine ⟨?_, Nat.min_le_left _ _, lent⟩
    dsimp only
    split <;> omega
  · exact ⟨remaining, charged, lent⟩

theorem Occurrence.lend_inRange {o : Occurrence} (h : o.InRange) (n : Nat) :
    (o.lend n).InRange := by
  obtain ⟨remaining, charged, lent⟩ := h
  unfold lend
  split
  · exact ⟨remaining, charged, Nat.min_le_left _ _⟩
  · exact ⟨remaining, charged, lent⟩

theorem State.Capacities.account {s : State} (h : s.Capacities) (course : Course) (n : Nat) :
    (s.account course n).Capacities := by
  cases course with
  | byWindow w => exact h.withOccurrence fun inRange => Occurrence.charge_inRange inRange n
  | lent w => exact h.withOccurrence fun inRange => Occurrence.lend_inRange inRange n
  | byBid => exact h

theorem State.Capacities.closeWindows {s : State} (h : s.Capacities) (tick : Nat) :
    (s.closeWindows tick).Capacities := by
  obtain ⟨counts, events, drops⟩ := h.records
  refine h.of_same (by simp) (by simp) ⟨fun w => ?_, events, drops⟩
  obtain ⟨⟨remaining, charged, lent⟩, usage⟩ := counts w
  rw [closeWindows_occurrence, closeWindows_usage]
  split
  · exact ⟨⟨remaining, charged, lent⟩, charged, lent⟩
  · exact ⟨⟨remaining, charged, lent⟩, usage⟩

theorem State.Capacities.openWindows {s : State} (h : s.Capacities) (tick : Nat) :
    (s.openWindows tick).Capacities := by
  obtain ⟨counts, events, drops⟩ := h.records
  refine h.of_same (by simp) (by simp) ⟨fun w => ⟨?_, (counts w).2⟩, events, drops⟩
  rw [openWindows_occurrence]
  split
  · refine ⟨?_, Nat.zero_le _, Nat.zero_le _⟩
    unfold Occurrence.opened
    dsimp only
    omega
  · exact (counts w).1

theorem State.Capacities.switchSchedule {s : State} (h : s.Capacities) :
    s.switchSchedule.Capacities := by
  obtain ⟨counts, events, drops⟩ := h.records
  have cleared : s.switched.Capacities := h.of_same rfl rfl
    ⟨fun w => ⟨(counts w).1, by simp [State.switched, Usage.cleared]⟩, events, drops⟩
  exact cleared.record _

theorem State.Capacities.advanceFrame {s : State} (h : s.Capacities) :
    s.advanceFrame.Capacities := by
  rcases Nat.lt_or_ge (s.frameTick + 1) s.active.period.toNat with inside | done
  · rw [advanceFrame_inside inside]
    exact (State.Capacities.closeWindows (s := s.moved) h _).openWindows _
  · rw [advanceFrame_wrap done]
    have begun : s.begun.Capacities := h.closeWindows _
    cases pending : s.commitPending with
    | false => exact frameStart_plain pending ▸ begun.openWindows 0
    | true => exact frameStart_switch pending ▸ begun.switchSchedule.openWindows 0

theorem State.Capacities.counted {s : State} (h : s.Capacities) : s.counted.Capacities :=
  h.of_within (fun p => .refl _) (fun i => by simpa using (s.slot i).within_countDown) h.records

/-! ### The slots, the completions and the expiries -/

theorem State.Capacities.orphan {s : State} (h : s.Capacities) (i : SlotId) :
    (s.orphan i).Capacities := by
  cases slot : s.slot i with
  | issued c d =>
    rw [orphan_of_issued slot]
    exact h.withSlot_within (Slot.within_orphaned _ c)
  | receiving c d beats =>
    rw [orphan_of_receiving slot]
    exact h.withSlot_within (Slot.within_orphaned _ c)
  | _ => simpa only [State.orphan, slot] using h

theorem State.Capacities.expireSlot {s : State} (h : s.Capacities) (i : SlotId) :
    (s.expireSlot i).Capacities := by
  have expire : ∀ c x, (s.expire i c x).Capacities := fun c x =>
    ((((h.orphan i).settleSlot_nil i c .timeout).withPort_within
      (Port.within_of_le le_rfl le_rfl rfl le_rfl le_rfl)).recordAll _).takeDecision
  rcases s.expireSlot_cases i with same | ⟨c, d, -, expired⟩ | ⟨c, d, beats, -, expired⟩
  · rwa [same]
  · exact expired ▸ expire c _
  · exact expired ▸ expire c _

/-- A slot freed. -/
theorem State.Capacities.freeSlot {s : State} (h : s.Capacities) (i : SlotId) :
    (s.withSlot i .free).Capacities :=
  h.withSlot_within (Slot.within_free _)

theorem State.Capacities.mismatch {s : State} (h : s.Capacities) (i : SlotId) (c : Command) :
    (s.mismatch i c).Capacities :=
  (((h.freeSlot i).withChannel .awaitHeader).settleSlot_nil i c .dataError).record _

theorem State.Capacities.lateEnd {s : State} (h : s.Capacities) (i : SlotId) (c : Command)
    (status : MemStatus) : (s.lateEnd i c status).Capacities :=
  ((h.freeSlot i).withChannel .awaitHeader).record _

theorem State.Capacities.endCompletion {s : State} (h : s.Capacities) (i : SlotId) :
    (s.endCompletion i).Capacities := by
  unfold State.endCompletion
  split
  · exact h.mismatch i _
  · exact h.lateEnd i _ _
  · exact h
  · exact h
  · exact h

theorem State.Capacities.interrupt {s : State} (h : s.Capacities) : s.interrupt.Capacities := by
  unfold State.interrupt
  split
  · exact h
  · exact h.endCompletion _
  · exact h.endCompletion _
  · exact h

theorem State.Capacities.classifyHeader {s : State} (h : s.Capacities) (i : SlotId) (kind : Kind)
    (status : MemStatus) : (s.classifyHeader i kind status).Capacities := by
  have stray : (s.strayHeader i kind status).Capacities := (h.withChannel _).record _
  unfold State.classifyHeader
  split
  · exact stray
  · exact stray
  · exact stray
  · split
    · unfold State.lateHeader
      split
      · exact h
      · exact h.lateEnd i _ _
    · exact stray
  · rename_i c d slot
    split
    · unfold State.issuedHeader
      split
      · exact ((h.freeSlot i).settleSlot_nil i _ _).recordAll _
      · split
        · exact (h.freeSlot i).settleSlot_nil i _ _
        · refine State.Capacities.withChannel (h.withSlot_within ?_) _
          rw [slot]
          exact ⟨id, fun _ => id, le_rfl, le_rfl⟩
    · exact stray

/-- A good read gives the beats that its slot reserved to its entry (R76, R82). -/
theorem State.Capacities.goodRead {s : State} (h : s.Capacities) {i : SlotId} {c : Command}
    {d : Deadline} {beats data : List BeatData} (slot : s.slot i = .receiving c d beats)
    (read : c.kind = .read) (length : data.length = c.length) :
    (s.goodRead i c data).Capacities := by
  have freed := h.freeSlot i
  refine (freed.withChannel .awaitHeader).settleSlot i c .ok ?_
  obtain ⟨_, _, _, _, _, _, _, readFits⟩ := h
  have sum := s.readStoreUsed_withSlot i .free
  have reserved : (s.slot i).readBeats = c.length := by
    simp [slot, Slot.readBeats, Slot.inFlight?, read]
  have same : ((s.withSlot i .free).withChannel .awaitHeader).readStoreUsed
      = (s.withSlot i .free).readStoreUsed := rfl
  unfold State.readStoreFree
  rw [same]
  have none : Slot.free.readBeats = 0 := rfl
  omega

theorem State.Capacities.dataBeat {s : State} (h : s.Capacities) {i : SlotId} {c : Command}
    {d : Deadline} {beats : List BeatData} (slot : s.slot i = .receiving c d beats)
    (read : c.kind = .read) (data : BeatData) (last : Bool) :
    (s.dataBeat i c d beats data last).Capacities := by
  unfold State.dataBeat
  repeat' split
  · exact (h.goodRead slot read (by simpa)).takeDecision
  · exact (h.mismatch i c).takeDecision
  · refine h.withSlot_within ?_
    rw [slot]
    exact ⟨id, fun _ => id, le_rfl, le_rfl⟩
  · exact (h.mismatch i c).takeDecision
  · exact h

/-! ### Arrivals and grants -/

/-- A new entry without data, on a list with room (R88). -/
theorem Port.appendReply_capacity {r : Port} {x : Request} {state : EntryState}
    (room : r.replies.length < Config.replyCapacity) (h : r.Capacity) :
    (r.appendReply x state).Capacity := by
  obtain ⟨queue, _, limit⟩ := h
  exact ⟨queue, by simpa [appendReply] using room, limit⟩

/-- The taking of a request finds room for what it adds (R26). -/
theorem State.Capacities.arrive {s : State} (h : s.Capacities) {p : PortId} {r : Request}
    (takes : s.takes p r = true) : (s.arrive p r).Capacities := by
  simp only [State.takes, Bool.and_eq_true, decide_eq_true_eq] at takes
  obtain ⟨⟨_, replies⟩, rest⟩ := takes
  have answered : ∀ status, (s.withPort p fun port =>
      port.appendReply r (.ready status [])).Capacities := fun status =>
    h.withPort (Port.appendReply_capacity replies) (Nat.le_add_right _ _)
      ((Port.appendReply_readBeats _ _ rfl).le.trans (Nat.le_add_right _ _))
  unfold State.arrive
  dsimp only
  split
  · exact (answered _).record _
  · refine (h.withPort (f := fun port => (port.appendReply r _).countRefusal)
      (Port.appendReply_capacity replies) (Nat.le_add_right _ _) ?_).ruleHit _ _ _ _ _
    exact (Port.appendReply_readBeats _ _ rfl).le.trans (Nat.le_add_right _ _)
  · rename_i classified
    rw [classified] at rest
    simp only [State.queueRoom, Bool.and_eq_true, decide_eq_true_eq] at rest
    obtain ⟨queue, store⟩ := rest
    refine ((h.withPort (fun fits => ?_) ?_ ?_).ruleHit _ _ _ _ _).takeDecision
    · obtain ⟨_, repliesFit, limit⟩ := Port.appendReply_capacity replies fits
      exact ⟨by simpa [Port.accept] using queue, repliesFit, limit⟩
    · simp only [Port.writeBeats, Port.accept, List.map_append, List.sum_append, List.map_cons,
        List.map_nil, List.sum_cons, List.sum_nil, QueuedRequest.writeBeats, queuedRecord]
      omega
    · have empty : (if (s.port p).posts r then EntryState.ready .ok [] else .waiting).data
          = [] := by
        split <;> rfl
      exact (Port.appendReply_readBeats _ _ empty).le.trans (Nat.le_add_right _ _)

/-- The entry of a granted request holds no data before or after (R93). -/
theorem QueuedRequest.granted_replyBeats (q : QueuedRequest) (i : SlotId) (l : List ReplyEntry) :
    replyBeats (q.granted i l) = replyBeats l := by
  unfold granted
  split
  · rfl
  · induction l with
    | nil => rfl
    | cons e es ih =>
      simp only [updateFirst]
      split
      · rename_i linked
        simp only [linkedToQueue, Bool.and_eq_true, decide_eq_true_eq] at linked
        simp [linked.2, EntryState.data]
      · simp [ih]

theorem QueuedRequest.granted_length (q : QueuedRequest) (i : SlotId) (l : List ReplyEntry) :
    (q.granted i l).length = l.length := by
  unfold granted
  split <;> simp

/-- A grant moves the write beats of its request from the queue to the slot, and reserves read beats
and a place in flight that the tests of Table 14 found free. -/
theorem State.Capacities.grant {s : State} (h : s.Capacities) {p : PortId} {course : Course}
    {q : QueuedRequest} {rest : List QueuedRequest} {i : SlotId} (free : s.lowestFree = some i)
    (queue : (s.port p).queue = q :: rest) (passes : s.passes p q = true) :
    (s.grant p course).Capacities := by
  rw [grant_eq free queue]
  obtain ⟨portsFit, _, _, _, _, _, writeFits, _⟩ := id h
  obtain ⟨_, _, _, limit⟩ := portsFit p
  simp only [State.passes, Bool.and_eq_true, decide_eq_true_eq, Bool.or_eq_true] at passes
  obtain ⟨⟨_, flight⟩, room⟩ := passes
  have taken : (Port.granted q rest i course (s.port p)).writeBeats + shareBeats q.share
      = (s.port p).writeBeats := by
    simp only [Port.writeBeats, Port.granted, queue, List.map_cons, List.sum_cons,
      QueuedRequest.writeBeats]
    omega
  have kept : (Port.granted q rest i course (s.port p)).readBeats = (s.port p).readBeats :=
    q.granted_replyBeats i _
  have queued : (s.withPort p (Port.granted q rest i course)).Capacities := by
    refine h.withPort_within (Port.within_of_le ?_ (q.granted_length i _).le rfl (by omega) kept.le)
    simp [Port.granted, queue]
  refine ((queued.withSlot (fun _ => rfl) (fun o ho => .inr ?_) ?_ ?_).account _ _).drainCheck _
  · obtain rfl : p = o := by
      simpa [Slot.inFlightFor, Slot.inFlight?, QueuedRequest.command] using ho
    rw [inFlightCount_withPort]
    omega
  · have sum := s.writeStoreUsed_withPort p (Port.granted q rest i course)
    simp only [Slot.writeBeats, State.writeStoreFree]
    omega
  · have sum := s.readStoreUsed_withPort p (Port.granted q rest i course)
    have store : (s.withPort p (Port.granted q rest i course)).readStoreFree = s.readStoreFree := by
      unfold State.readStoreFree
      omega
    simp only [Slot.readBeats, Slot.inFlight?, QueuedRequest.command, store]
    split
    · rename_i read
      have := room.resolve_left (by simp [read])
      omega
    · exact Nat.zero_le _

/-! ### The link, port control and resets -/

/-- An entry that a link down settles held no data (R104). -/
theorem State.linkResetEntry_data (s : State) (p : PortId) (e : ReplyEntry) :
    (s.linkResetEntry p e).state.data = e.state.data := by
  unfold linkResetEntry linkedEntry
  cases state : e.state with
  | pending i => dsimp only; split <;> simp [state, EntryState.data]
  | _ => simp [state]

/-- A link down before its records: every slot freed, and the entries they link to settled (R122).
-/
def State.linkFreed (s : State) (link : LinkState) : State :=
  { s with
    slots := tabulate fun _ => Slot.free
    ports := tabulate fun p => s.linkResetPort p
    completion := .awaitHeader
    link := link }

theorem State.takeLinkDown_eq (s : State) (cause : DownCause) (link : LinkState) :
    s.takeLinkDown cause link
      = ((s.linkFreed link).record (.linkDown cause)).recordAll (s.slotLosses .linkDown) := rfl

theorem State.Capacities.takeLinkDown {s : State} (h : s.Capacities) (cause : DownCause)
    (link : LinkState) : (s.takeLinkDown cause link).Capacities := by
  have freed : (s.linkFreed link).Capacities := by
    refine h.of_within (fun p => ?_) (fun i => ?_) h.records
    · simp only [State.port, State.linkFreed, look_tabulate]
      refine Port.within_of_le le_rfl (by simp [State.linkResetPort, State.port]) rfl le_rfl ?_
      simp only [Port.readBeats_eq, State.linkResetPort, replyBeats_beginDelivery]
      exact (replyBeats_map (s.linkResetEntry_data p) _).le
    · simp only [State.slot, State.linkFreed, look_tabulate]
      exact Slot.within_free _
  rw [takeLinkDown_eq]
  exact (freed.record _).recordAll _

/-- The assertion of a port reset before its records: the port emptied, its slots orphaned (R137).
-/
def State.portEmptied (s : State) (p : PortId) (x : ReturnState) (report : Bool) : State :=
  { s.withPort p (Port.reset x report) with
    slots := tabulate fun i => (s.slot i).portReset p
    completion := s.channelAtPortReset p }

theorem State.resetPort_eq (s : State) (p : PortId) (x : ReturnState) (report : Bool) :
    s.resetPort p x report
      = ((s.portEmptied p x report).recordAll (s.queueLosses p .portReset)).takeDecision := rfl

theorem State.Capacities.resetPort {s : State} (h : s.Capacities) (p : PortId) (x : ReturnState)
    (report : Bool) : (s.resetPort p x report).Capacities := by
  have emptied : (s.withPort p (Port.reset x report)).Capacities :=
    h.withPort_within (Port.within_of_le (Nat.zero_le _) (Nat.zero_le _) rfl (Nat.zero_le _)
      (Nat.zero_le _))
  have orphaned : (s.portEmptied p x report).Capacities := by
    refine emptied.of_within (fun q => ?_) (fun i => ?_) ?_
    · simpa only [State.port, State.portEmptied] using Port.Within.refl _
    · simpa [State.slot, State.portEmptied] using (s.slot i).within_portReset p
    · simpa only [State.RecordsInRange, State.occurrence, State.portEmptied] using emptied.records
  rw [resetPort_eq]
  exact (orphaned.recordAll _).takeDecision

theorem State.Capacities.releasePort {s : State} (h : s.Capacities) (p : PortId) (x : ReturnState)
    (report : Bool) : (s.releasePort p x report).Capacities := by
  have released : (s.withPort p fun r =>
      { r with mode := x.mode, resetInput := false, nextSequence := 0 }).Capacities :=
    h.withPort_within (Port.within_of_le le_rfl le_rfl rfl le_rfl le_rfl)
  unfold State.releasePort
  dsimp only
  split
  · exact released.record _
  · exact released

theorem State.Capacities.endDelivery {s : State} (h : s.Capacities) (p : PortId) :
    (s.endDelivery p).Capacities := by
  refine (State.Capacities.drainCheck (h.withPort_within (Port.within_of_le le_rfl ?_ rfl le_rfl
    ?_)) p).takeDecision
  · simp
  · simp only [Port.readBeats_eq, replyBeats_beginDelivery]
    cases (s.port p).replies <;> simp

/-- A reset leaves every list and store empty (R4). -/
theorem State.Capacities.resetBlocks {s : State} (h : s.Capacities) (frame : MgmtFrame) :
    (s.resetBlocks frame).Capacities := by
  refine State.Capacities.recordAll (h.of_within (fun p => ?_) (fun i => ?_) ⟨fun w => ?_, ?_, ?_⟩)
    _
  · simp only [State.port, look_tabulate]
    exact ⟨fun _ => ⟨Nat.zero_le _, Nat.zero_le _,
      (by decide : 1 ≤ Settings.default.inFlightLimit),
      (by decide : Settings.default.inFlightLimit ≤ 16)⟩, Nat.zero_le _, Nat.zero_le _⟩
  · simp only [State.slot, State.reset, look_tabulate]
    exact Slot.within_free _
  · simp only [State.reset, State.occurrence, look_tabulate]
    decide
  · exact Nat.zero_le _
  · exact Nat.zero_le _

/-- A WRITE stores an in-flight limit of 1 to 16 (Table 58). -/
theorem Settings.withField_limit {x : Settings} {v : Nat} {f : PortField}
    (inRange : f.accepts v = true) (h : 1 ≤ x.inFlightLimit ∧ x.inFlightLimit ≤ 16) :
    1 ≤ (x.withField v f).inFlightLimit ∧ (x.withField v f).inFlightLimit ≤ 16 := by
  cases f with
  | inFlightLimit => simpa [PortField.accepts, Settings.withField] using inRange
  | _ => exact h

theorem State.Capacities.withField {s : State} (h : s.Capacities) {v : Nat} {f : Field}
    (inRange : f.accepts v = true) : (s.withField v f).Capacities := by
  cases f with
  | port p f =>
    refine h.withPort_within ⟨fun fits => ?_, le_rfl, le_rfl⟩
    obtain ⟨queue, replies, limit⟩ := fits
    exact ⟨queue, replies, Settings.withField_limit inRange limit⟩
  | global f => cases f <;> exact h
  | _ => exact h

theorem State.Capacities.clearField {s : State} (h : s.Capacities) (f : Field) :
    (s.clearField f).Capacities := by
  cases f with
  | counter p f => exact h.withPort_within (Port.within_of_le le_rfl le_rfl rfl le_rfl le_rfl)
  | status f =>
    cases f with
    | queueLength => exact h
    | dropCount =>
      obtain ⟨counts, events, _⟩ := h.records
      exact h.of_same rfl rfl ⟨counts, events, Nat.zero_le _⟩
  | _ => exact h

/-! ### Every step -/

theorem Performed.capacities {s t : State} (e : Performed s t) (h : s.Capacities) :
    t.Capacities := by
  have withMode : ∀ p mode, (s.withMode p mode).Capacities := fun p mode =>
    h.withPort_within (Port.within_of_le le_rfl le_rfl rfl le_rfl le_rfl)
  cases e with
  | unchanged => exact h
  | stored f v writable unlocked inRange =>
    unfold State.storeField
    split
    · exact (h.withField inRange).takeDecision
    · exact h.withField inRange
  | cleared f clearable => exact h.clearField f
  | committed clear valid => exact h
  | cancelled => exact h
  | enabled p mode => exact withMode p _
  | drained p mode => exact (withMode p _).drainCheck p
  | flushed p mode =>
    exact ((h.withPort_within (Port.within_flushed _)).recordAll _).drainCheck p
  | countersCleared p =>
    exact h.withPort_within (Port.within_of_le le_rfl le_rfl rfl le_rfl le_rfl)
  | popped r rest queue =>
    obtain ⟨counts, events, drops⟩ := h.records
    refine h.of_same rfl rfl ⟨counts, ?_, drops⟩
    rw [queue] at events
    exact (Nat.le_succ _).trans events
  | restarted up => exact h.takeLinkDown _ _
  | restarting down => exact h
  | reset => exact h.resetBlocks _

theorem Effect.capacities {s t : State} (e : Effect s t) (table : s.TableSound)
    (h : s.Capacities) : t.Capacities := by
  cases e with
  | tickEnded running =>
    exact State.expireAll_keeps (P := State.Capacities) (fun t i fits => fits.expireSlot i) _ _
      h.counted.advanceFrame.takeDecision
  | arrived p r takes => exact h.arrive takes
  | decided may none => exact h.takeDecision
  | granted p course may named =>
    obtain ⟨i, q, rest, free, queue, passes⟩ := State.grantable_of_decision may named
    exact h.takeDecision.grant free queue passes
  | itemTaken i c share taken mark running slot more =>
    refine h.withSlot_within ?_
    rw [slot]
    exact ⟨id, fun _ => id, le_rfl, le_rfl⟩
  | transferEnded i c share taken mark running slot last =>
    refine (h.withSlot_within ?_).takeDecision
    rw [slot]
    exact s.within_transferred c share taken mark mark
  | headerTaken i kind status running up =>
    exact (h.interrupt.classifyHeader i kind status).decideAfter s
  | strayBeat last running up channel => exact (h.withChannel _).record _
  | dataBeat i c d beats data last running up channel slot =>
    obtain ⟨_, _, _, receiving⟩ := table
    have sound := receiving i
    rw [slot] at sound
    simp only [Slot.receivingSound, Bool.and_eq_true, decide_eq_true_eq] at sound
    exact h.dataBeat slot sound.1 data last
  | discardEnded i running up channel => exact (h.endCompletion i).takeDecision
  | expired i running ends => exact State.Capacities.expireSlot (s := s.reachTickEnd) h i
  | linkDown running up =>
    exact State.Capacities.takeLinkDown (s := { s with linkReady := false }) h _ _
  | linkUp low running down =>
    exact (State.Capacities.record (s := { s with linkReady := true, link := .up }) h
      _).takeDecision
  | replyItemTaken p running more => exact h.withPort_within (Port.within_takeItem _)
  | deliveryEnded p running last => exact h.endDelivery p
  | resetLevel p level idle =>
    exact h.withPort_within (Port.within_of_le le_rfl le_rfl rfl le_rfl le_rfl)
  | portReset p x report running mode => exact h.resetPort p x report
  | portReleased p x report running mode => exact h.releasePort p x report
  | resetAsserted running =>
    exact h.of_same rfl rfl ⟨h.records.1, Nat.zero_le _, Nat.zero_le _⟩
  | resetReleased standing => exact h.resetBlocks _
  | managed t r running performed => exact performed.capacities h
  | _ => exact h

/-- Settles O44, over the cases of what a step can do. -/
theorem capacitiesKept : Obligations.CapacitiesKept := by
  intro s t h table stepped
  rcases step_effect stepped with e | ⟨c, cs, -, e⟩
  · exact e.capacities table h
  · exact e.capacities (s := s.withPending cs) table h

end Sys2Proof.Machine
end

section
/-! PROOFS. The step, the reset state, device reset, COMMIT and CANCEL, the spent mark, and GRANT.
-/

namespace Sys2Proof.Machine

/-! ### The step -/

/-- Settles O1: the two branches of the step, and the two of a memory clock. -/
theorem stepTakesTheFrontCommand : Obligations.StepTakesTheFrontCommand := by
  refine ⟨fun c cs s waiting => ?_, fun s idle => ⟨fun held => ?_, fun running inside => ?_,
    fun running last => ?_⟩⟩
  · simp only [step, waiting, State.withPending]
  · simp [step, idle, State.memoryClock, held]
  · simp [step, idle, State.memoryClock, running, inside]
  · simp only [step, idle, State.memoryClock, running, last.not_gt, Bool.false_eq_true, if_false]
    rfl

/-! ### The reset state -/

@[simp] theorem State.reset_slot (i : SlotId) : State.reset.slot i = .free := look_tabulate _ i

@[simp] theorem State.reset_port (p : PortId) : State.reset.port p = Port.afterReset false :=
  look_tabulate _ p

@[simp] theorem State.reset_occurrence (w : WindowId) :
    State.reset.occurrence w = Occurrence.cleared := look_tabulate _ w

@[simp] theorem State.reset_usage (w : WindowId) : look State.reset.usage w = Usage.cleared :=
  look_tabulate _ w

/-- Settles O3: each value is the one that the reset state is built from. -/
theorem resetLeavesTheStatedValues : Obligations.ResetLeavesTheStatedValues := by
  refine ⟨⟨rfl, rfl, rfl, rfl⟩, ⟨rfl, fun sch listed => ?_⟩,
    fun w => ⟨State.reset_occurrence w, State.reset_usage w⟩, fun p => ?_, ⟨rfl, rfl, rfl⟩,
    State.reset_slot, rfl, fun k => look_tabulate _ k, rfl,
    ⟨rfl, rfl, rfl, fun k => look_tabulate _ k⟩, rfl⟩
  · obtain rfl : sch = Schedule.default := by simpa [State.reset] using listed
    exact ⟨rfl, rfl, rfl, fun w => look_tabulate _ w⟩
  · rw [State.reset_port]
    exact ⟨rfl, rfl, rfl, rfl, rfl, rfl, rfl⟩

theorem State.reset_timerSound : State.reset.TimerSound :=
  timerSound_of_tickStart (active := Schedule.default) (staged := Schedule.default) rfl rfl
    Schedule.default_valid (fun pending => absurd pending (by decide))
    Schedule.default_lengthsStored Schedule.default_lengthsStored Schedule.default_valid.period_pos
    rfl

theorem State.reset_frameReset : State.reset.FrameReset := ⟨rfl, rfl, State.reset_occurrence⟩

theorem State.reset_tableSound : State.reset.TableSound := by
  refine ⟨?_, ?_, ⟨?_, ?_, ?_⟩, ?_⟩
  · simp [State.BlocksExclusive, Slot.command?]
  · simp [State.OneSending, Slot.isSending]
  · simp [Slot.isReceiving]
  · simp [State.reset]
  · simp [State.reset]
  · simp [Slot.receivingSound]

theorem State.reset_capacities : State.reset.Capacities := by
  decide

theorem State.reset_repliesSound : State.reset.RepliesSound := by
  refine ⟨fun p => ⟨?_, ⟨?_, ?_⟩, ?_, ?_⟩, ?_⟩
  · simp [Port.SequencesRun, Port.afterReset]
  · simp [Port.afterReset]
  · simp [Port.afterReset]
  · simp [Port.WaitingLinked, Port.afterReset]
  · simp [State.PendingLinked, Port.afterReset]
  · simp [State.LinksAnswered, Slot.replyLink?]

theorem State.reset_linkSound : State.reset.LinkSound := by
  refine ⟨fun _ => rfl, fun _ _ => State.reset_slot, fun up => ?_⟩
  exact absurd up (by decide)

/-- Settles O4, invariant by invariant. -/
theorem resetIsSound : Obligations.ResetIsSound :=
  ⟨State.reset_timerSound, State.occurrencesSound_of_reset State.reset_frameReset,
    State.reset_tableSound, State.reset_capacities,
    fun p still => by simp [Port.afterReset, PortMode.afterReset, PortMode.isStill] at still,
    State.reset_linkSound, State.reset_repliesSound,
    State.decisionTaken_of_not_may (State.mayDecide_of_link (by decide))⟩

/-! ### Device reset -/

/-- Settles O5: every command looks at device reset first, but for GRANT, which the link state
stops. -/
theorem deviceResetStandsStill : Obligations.DeviceResetStandsStill := by
  intro s held sound
  have idle : s.mayDecide = false := State.mayDecide_of_link (by simp [sound.1 held])
  have taken : ∀ m, s.take m = s := fun m => by simp [State.take, held]
  refine ⟨?_, fun c listed => ?_, fun p => ?_, fun p => ?_, fun c unlisted noAssert noRelease => ?_⟩
  · show Host.Outcome.next s.linkReadyRises = _
    cases ready : s.linkReady with
    | false => simp [State.linkReadyRises, ready, held]
    | true =>
      have same : s = { s with linkReady := true } := by rw [← ready]
      simpa [State.linkReadyRises, ready] using same
  · have falls : exec c s = .next s.linkReadyFalls := by
      rcases List.mem_pair.1 listed with rfl | rfl <;> rfl
    simp [falls, State.linkReadyFalls, held]
  · simp [exec, execPortResetAssert, held, State.withResetInput, State.withPort]
  · simp [exec, execPortResetRelease, held, State.withResetInput, State.withPort]
  · cases c with
    | tickEnd => simp [exec, execTickEnd, State.tickEnd, held]
    | arrival p r => simp [exec, execArrival, State.takes, held]
    | grant => simp [exec, execGrant, idle]
    | commandItemTaken => simp [exec, execCommandItemTaken, held]
    | transferEnd => simp [exec, execTransferEnd, held]
    | completionHeader i kind status => simp [exec, execCompletionHeader, held]
    | readBeat data last => simp [exec, execReadBeat, held]
    | deadlineExpiry i => simp [exec, execDeadlineExpiry, held]
    | replyItemTaken p => simp [exec, execReplyItemTaken, held]
    | deliveryEnd p => simp [exec, execDeliveryEnd, held]
    | portResetAssert p => exact absurd rfl (noAssert p)
    | portResetRelease p => exact absurd rfl (noRelease p)
    | deviceResetAssert => simp [exec, execDeviceResetAssert, held]
    | chipSelectFall => simp [exec, execChipSelectFall, held]
    | chipSelectRise => simp [exec, execChipSelectRise, held]
    | spiClockRisingEdge bit => simp [exec, execSpiClockRisingEdge, held]
    | linkUp | linkDown | linkReadyFallsWhileRestarting | deviceResetRelease =>
      exact absurd (by simp) unlisted
    | _ => exact congrArg Host.Outcome.next (taken _)

/-! ### COMMIT and CANCEL -/

/-- The taking of a management command outside device reset answers its result (R157, R159). -/
theorem State.take_eq {s : State} (running : s.deviceReset = false) (m : MgmtCommand) :
    s.take m = (s.perform m).1.answers (s.perform m).2.code (s.perform m).2.value := by
  simp only [State.take, running]
  rfl

/-- Settles O12, over the cases of COMMIT. -/
theorem commitAndCancel : Obligations.CommitAndCancel := by
  intro s running
  have commit : exec .commit s
      = .next (s.mgmtCommit.1.answers s.mgmtCommit.2.code s.mgmtCommit.2.value) :=
    congrArg _ (State.take_eq running .commit)
  refine ⟨fun pending => ?_, fun clear valid => ?_, fun clear invalid => ?_, ?_⟩
  · simp [commit, State.mgmtCommit, pending]
  · simp [commit, State.mgmtCommit, clear, Schedule.fault_eq_none.2 valid]
  · obtain ⟨r, failing⟩ := Option.ne_none_iff_exists'.1 (mt Schedule.fault_eq_none.1 invalid)
    exact ⟨r, failing, by simp [commit, State.mgmtCommit, clear, failing]⟩
  · exact congrArg _ (State.take_eq running .cancel)

/-! ### The spent mark of a decision -/

/-- A decision that finds no window short changes nothing (R52). -/
theorem State.takeDecision_of_none {s : State} (h : s.shortWindow = none) : s.takeDecision = s := by
  simp [State.takeDecision, h]

/-- The window of the position is short exactly when its budget is too small for its owner's
grantable head (R51, R52). -/
theorem State.shortWindow_of_head {s : State} {w : WindowId} {q : QueuedRequest}
    (at_ : s.position = .window w) (head : s.grantableHead (s.active.window w).owner = some q) :
    s.shortWindow = if (s.occurrence w).tooSmallFor q.length then some w else none := by
  simp [State.shortWindow, at_, head]

/-- Settles O24, by the position and the owner's head. -/
theorem decisionMarksAShortBudgetOnce : Obligations.DecisionMarksAShortBudgetOnce := by
  refine fun s => ⟨fun w q may at_ head limited short isOpen => ?_, fun idle => ?_,
    fun nowhere => ?_, fun w at_ enough => ?_⟩
  · have marks : s.takeDecision = s.markSpent w := by
      have small : (s.occurrence w).tooSmallFor q.length = true := by
        simp [Occurrence.tooSmallFor, limited, short]
      simp [State.takeDecision, may, State.shortWindow_of_head at_ head, small]
    rw [marks]
    refine ⟨fun clear => ?_, fun spent => ?_⟩
    · simp [State.markSpent, isOpen, clear, State.withOccurrence]
    · simp [State.markSpent, spent]
  · simp [State.takeDecision, idle]
  · refine State.takeDecision_of_none ?_
    cases at_ : s.position with
    | guard w => simp [State.shortWindow, at_]
    | window w => exact absurd at_ (nowhere w)
    | unreserved => simp [State.shortWindow, at_]
  · refine State.takeDecision_of_none ?_
    cases head : s.grantableHead (s.active.window w).owner with
    | none => simp [State.shortWindow, at_, head]
    | some q =>
      have fits : (s.occurrence w).tooSmallFor q.length = false := by
        simpa [Occurrence.tooSmallFor, or_iff_not_imp_left] using enough q head
      simp [State.shortWindow_of_head at_ head, fits]

/-! ### GRANT -/

/-- GRANT where the decision names a port. -/
theorem exec_grant_eq {s : State} {p : PortId} {course : Course} (may : s.mayDecide = true)
    (named : s.decision = some (p, course)) :
    exec .grant s = .next (s.takeDecision.grant p course) := by
  show execGrant s = _
  simp [execGrant, may, named]

/-- Settles O25: the grant of the named head, with its entry where it stands and the counts of its
course. -/
theorem grantTakesTheLowestFreeSlot : Obligations.GrantTakesTheLowestFreeSlot := by
  intro s p course q rest i may named queue free least
  have lowest : s.takeDecision.lowestFree = some i :=
    State.lowestFree_eq_some (by simpa using free) (by simpa using least)
  have granted : exec .grant s = .next
      ((((s.takeDecision.withPort p (Port.granted q rest i course)).withSlot i
        (.sending (q.command p) q.share 0 false)).account course q.length).drainCheck p) := by
    rw [exec_grant_eq may named, State.grant_eq lowest (by simpa using queue)]
  have ports : s.takeDecision.ports = s.ports := by simp
  have slots : s.takeDecision.slots = s.slots := by simp
  have port : s.takeDecision.port p = s.port p := by simp
  dsimp only
  refine ⟨fun posted => ?_, fun before e after notPosted found => ?_⟩
  · have entry : q.granted i (s.port p).replies = (s.port p).replies := by
      simp [QueuedRequest.granted, posted]
    rw [granted]
    simp only [State.withPort, State.withSlot, ports, slots, port, Port.granted, entry]
    cases course <;> rfl
  · have entry := q.granted_of_found i notPosted found
    rw [granted]
    simp only [State.withPort, State.withSlot, ports, slots, port, Port.granted, entry]
    cases course <;> rfl

end Sys2Proof.Machine
end

section
/-! PROOFS. Request acceptance: which requests a port takes and what it makes of each
classification; the items of a command in transfer; and what the assertion of a port reset does to
each slot and to the completion channel. -/

namespace Sys2Proof.Machine

/-! ### The verdict -/

/-- The decision of the first rule that covers a request, by the rule's action (R108, Table 32). -/
theorem State.verdict_of_action {s : State} {p : PortId} {kind : Kind} {block : Block} {k : RuleId}
    {action : RuleAction} (first : s.FirstCovering p kind block k)
    (acts : (look s.rules k).action = action) :
    s.verdict p kind block
      = { refused := action.refuses, reportedBy := if action.reports then some k else none } :=
  acts ▸ State.verdict_of_first first

/-- The decision on a request that no rule covers, by the default action (R106, R108). -/
theorem State.verdict_of_default {s : State} {p : PortId} {kind : Kind} {block : Block}
    {action : DefaultAction} (uncovered : s.NoneCovering p kind block)
    (acts : s.defaultAction = action) :
    s.verdict p kind block = { refused := decide (action = .refuse), reportedBy := none } :=
  acts ▸ State.verdict_of_none uncovered

/-! ### The taking of requests -/

/-- Appending a reply entry for a request appends it with the request's tag and kind (R91, R92). -/
theorem Port.appendReply_eq (port : Port) (r : Request) (state : EntryState) :
    port.appendReply r state = port.withEntry r.tag r.kind state := rfl

theorem State.classify_of_malformed {s : State} {p : PortId} {r : Request}
    (bad : r.malformed = true) : s.classify p r = .malformed := by
  simp [State.classify, bad]

theorem State.classify_of_refused {s : State} {p : PortId} {r : Request} {reporter : Option RuleId}
    (good : r.malformed = false) (refused : s.verdict p r.kind r.block = ⟨true, reporter⟩) :
    s.classify p r = .refused reporter := by
  simp [State.classify, good, refused]

theorem State.classify_of_passed {s : State} {p : PortId} {r : Request} {reporter : Option RuleId}
    (good : r.malformed = false) (passed : s.verdict p r.kind r.block = ⟨false, reporter⟩) :
    s.classify p r = .passed reporter := by
  simp [State.classify, good, passed]

/-- A port takes a request exactly when it is ACTIVE outside device reset with room in its reply
list, and a request to be queued has room too (R26). -/
theorem State.takes_iff {s : State} {p : PortId} {r : Request} :
    s.takes p r = true ↔ s.deviceReset = false ∧ (s.port p).mode = .active
      ∧ (s.port p).replies.length < Config.replyCapacity
      ∧ ∀ reporter, s.classify p r = .passed reporter →
          (s.port p).queue.length < Config.queueCapacity
            ∧ shareBeats r.share ≤ s.writeStoreFree := by
  cases h : s.classify p r <;> simp [State.takes, h, State.queueRoom, and_assoc]

/-- ARRIVAL of a request that the port takes (R33). -/
theorem exec_arrival_of_takes {s : State} {p : PortId} {r : Request} (h : s.takes p r = true) :
    exec (.arrival p r) s = .next (s.arrive p r) :=
  if_pos h

/-- Settles O15: each condition that holds the request contradicts one that its taking asks for. -/
theorem heldRequestLeavesNoTrace : Obligations.HeldRequestLeavesNoTrace := by
  intro p r s held
  refine if_neg fun taken => ?_
  obtain ⟨-, active, room, queueRoom⟩ := State.takes_iff.1 taken
  rcases held with still | full | ⟨good, passed, short⟩
  · exact still active
  · exact absurd room (not_lt.2 full)
  · have verdict : s.verdict p r.kind r.block
        = ⟨false, (s.verdict p r.kind r.block).reportedBy⟩ := by rw [← passed]
    obtain ⟨queued, stored⟩ := queueRoom _ (State.classify_of_passed good verdict)
    exact short.elim (not_le.2 queued) (not_lt.2 stored)

/-- Settles O16: a malformed request is taken without a look at rules, queue or write store. -/
theorem malformedRequestIsAnswered : Obligations.MalformedRequestIsAnswered := by
  refine fun r => ⟨?_, fun p s running active room bad => ?_⟩
  · simp only [Request.malformed, Bool.or_eq_true, decide_eq_true_eq, or_assoc]
    rfl
  · have classified := State.classify_of_malformed (s := s) (p := p) bad
    rw [exec_arrival_of_takes (State.takes_iff.2 ⟨running, active, room, by simp [classified]⟩)]
    simp only [State.arrive, classified, State.withPort, Port.appendReply_eq]

/-- ARRIVAL of a well-formed request that the checker refuses (R30, R109, R110). -/
theorem exec_arrival_of_refused {s : State} {p : PortId} {r : Request} {reporter : Option RuleId}
    (running : s.deviceReset = false) (active : (s.port p).mode = .active)
    (room : (s.port p).replies.length < 32) (good : r.malformed = false)
    (refused : s.verdict p r.kind r.block = ⟨true, reporter⟩) :
    exec (.arrival p r) s = .next
      ((s.withPort p fun port =>
          (port.withEntry r.tag r.kind (.ready .refused [])).countRefusal).ruleHit
        p r (s.port p).nextSequence true reporter) := by
  have classified := State.classify_of_refused good refused
  rw [exec_arrival_of_takes (State.takes_iff.2 ⟨running, active, room, by simp [classified]⟩)]
  simp only [State.arrive, classified, Port.appendReply_eq]

/-- Settles O17, by what refuses: a rule that is silent, a rule that reports, the default action. -/
theorem refusedRequestIsAnswered : Obligations.RefusedRequestIsAnswered := by
  intro p r s running active room good
  have answered (reporter) :=
    exec_arrival_of_refused (reporter := reporter) running active room good
  exact ⟨fun k first refuses => answered none (State.verdict_of_action first refuses),
    fun k first reports => answered (some k) (State.verdict_of_action first reports),
    fun uncovered refuses => answered none (State.verdict_of_default uncovered refuses)⟩

/-- ARRIVAL of a well-formed request that the checker passes and that has room (R31, R32, R110). -/
theorem exec_arrival_of_passed {s : State} {p : PortId} {r : Request} {reporter : Option RuleId}
    (running : s.deviceReset = false) (active : (s.port p).mode = .active)
    (room : (s.port p).replies.length < 32) (good : r.malformed = false)
    (queueRoom : (s.port p).queue.length < 16) (storeRoom : shareBeats r.share ≤ s.writeStoreFree)
    (passed : s.verdict p r.kind r.block = ⟨false, reporter⟩) :
    exec (.arrival p r) s = .next
      ((s.withPort p fun port => port.accept r s.tickCount).ruleHit
        p r (s.port p).nextSequence false reporter).takeDecision := by
  rw [exec_arrival_of_takes
    (State.takes_iff.2 ⟨running, active, room, fun _ _ => ⟨queueRoom, storeRoom⟩⟩)]
  simp only [State.arrive, State.classify_of_passed good passed]

/-- Settles O18, by what passes: a rule that is silent, a rule that reports, the default action. -/
theorem passedRequestIsQueued : Obligations.PassedRequestIsQueued := by
  intro p r s running active room good queueRoom storeRoom
  have queued (reporter) :=
    exec_arrival_of_passed (reporter := reporter) running active room good queueRoom storeRoom
  exact ⟨fun k first passes => queued none (State.verdict_of_action first passes),
    fun k first reports => queued (some k) (State.verdict_of_action first reports),
    fun uncovered passes => queued none (State.verdict_of_default uncovered passes)⟩

/-! ### The command channel -/

/-- The item offered is the next of the header and the beats of the share (R68, Table 22). -/
theorem State.commandOffered_eq {s : State} {i : SlotId} {c : Command}
    {share : Option (List WriteBeat)} {taken : Nat} {mark : Bool} (running : s.deviceReset = false)
    (sending : s.SendingFrom i c share taken mark) :
    s.commandOffered
      = (CommandItem.header i c.kind (c.block.address c.offset) c.length
          :: (share.getD []).map .beat)[taken]? := by
  simp only [State.commandOffered, running, State.sendingSlot_eq_some sending, sending.1]
  cases taken <;> simp

/-- COMMAND_ITEM_TAKEN of an item that is not the last (R68). -/
theorem exec_commandItemTaken_eq {s : State} {i : SlotId} {c : Command}
    {share : Option (List WriteBeat)} {taken : Nat} {mark : Bool} (running : s.deviceReset = false)
    (sending : s.SendingFrom i c share taken mark) (more : taken < shareBeats share) :
    exec .commandItemTaken s = .next (s.withSlot i (.sending c share (taken + 1) mark)) := by
  have notLast : taken + 1 < commandItems share := by
    unfold commandItems
    omega
  show execCommandItemTaken s = _
  simp [execCommandItemTaken, running, State.sendingSlot_eq_some sending, sending.1, notLast]

/-- TRANSFER_END at the last item (R69). -/
theorem exec_transferEnd_eq {s : State} {i : SlotId} {c : Command}
    {share : Option (List WriteBeat)} {taken : Nat} {mark : Bool} (running : s.deviceReset = false)
    (sending : s.SendingFrom i c share taken mark) (last : taken = shareBeats share) :
    exec .transferEnd s = .next (s.withSlot i (s.transferred c mark)).takeDecision := by
  have isLast : taken + 1 = commandItems share := by
    unfold commandItems
    omega
  show execTransferEnd s = _
  simp [execTransferEnd, running, State.sendingSlot_eq_some sending, sending.1, isLast]

/-- A slot whose orphan mark is clear is ISSUED at its transfer end (R69). -/
theorem State.transferred_clear (s : State) (c : Command) :
    s.transferred c false = .issued c s.loadedDeadline := rfl

theorem State.loadedDeadline_of_zero {s : State} (h : s.deadline = 0) :
    s.loadedDeadline = .absent := if_pos h

theorem State.loadedDeadline_of_ne {s : State} (h : s.deadline ≠ 0) :
    s.loadedDeadline = .ticks s.deadline.toNat := if_neg h

/-- Settles O29: the item offered, its taking, and the transfer end by mark and global deadline. -/
theorem commandTransfersItemByItem : Obligations.CommandTransfersItemByItem := by
  intro s i c share taken mark running sending
  refine ⟨State.commandOffered_eq running sending, exec_commandItemTaken_eq running sending,
    fun last marked => ?_, fun last clear unlimited => ?_, fun last clear limited => ?_⟩
  · rw [exec_transferEnd_eq running sending last, marked]
    rfl
  · rw [exec_transferEnd_eq running sending last, clear, State.transferred_clear,
      State.loadedDeadline_of_zero unlimited]
    rfl
  · rw [exec_transferEnd_eq running sending last, clear, State.transferred_clear,
      State.loadedDeadline_of_ne limited]
    rfl

/-! ### The assertion of a port reset -/

/-- The state that the release returns to, and whether it reports the drain, by the state of the
port at the assertion (R131). -/
theorem exec_portResetAssert_eq {s : State} {p : PortId} (running : s.deviceReset = false)
    (outside : (s.port p).mode.code ≠ 3) :
    exec (.portResetAssert p) s = .next (s.resetPort p
      (if (s.port p).mode = .active then .active else .halted)
      (decide ((s.port p).mode = .draining))) := by
  show execPortResetAssert p s = _
  cases mode : (s.port p).mode with
  | inReset x y => exact absurd (by simp [mode, PortMode.code]) outside
  | _ => simp [execPortResetAssert, running, mode]

/-- A port reset leaves the slots of the other ports alone (R138). -/
theorem Slot.portReset_of_other {p : PortId} {x : Slot} {c : Command} (holds : x.command? = some c)
    (other : c.port ≠ p) : x.portReset p = x := by
  cases x with
  | free => rfl
  | orphaned d => rfl
  | sending d share n mark | issued d deadline | receiving d deadline beats =>
    obtain rfl : d = c := by simpa [Slot.command?] using holds
    simp [Slot.portReset, other]

/-- A port reset leaves every FREE and every ORPHANED slot alone (R138). -/
theorem Slot.portReset_of_idle {p : PortId} {x : Slot}
    (idle : x.isFree = true ∨ x.isOrphaned = true) : x.portReset p = x := by
  cases x with
  | free | orphaned d => rfl
  | _ => simp [Slot.isFree, Slot.isOrphaned] at idle

/-- A port reset turns a DATA for one of the port's slots to DISCARD, and leaves one for another
port's slot alone (R79). -/
theorem State.channelAtPortReset_of_data {s : State} {p : PortId} {i : SlotId} {c : Command}
    {d : Deadline} {beats : List BeatData} (data : s.completion = .data i)
    (receiving : s.slot i = .receiving c d beats) :
    s.channelAtPortReset p = if c.port = p then .discard (some i) else .data i := by
  simp [State.channelAtPortReset, data, receiving]

/-- A port reset changes a DATA only (R79). -/
theorem State.channelAtPortReset_of_not_data {s : State} {p : PortId}
    (noData : ∀ i, s.completion ≠ .data i) : s.channelAtPortReset p = s.completion := by
  cases channel : s.completion with
  | data i => exact absurd channel (noData i)
  | awaitHeader | discard slot => simp [State.channelAtPortReset, channel]

@[simp] theorem State.portEmptied_slot (s : State) (p : PortId) (x : ReturnState) (report : Bool)
    (i : SlotId) : (s.portEmptied p x report).slot i = (s.slot i).portReset p :=
  look_tabulate _ i

/-- Settles O47: the state before the records is that of `portEmptied`, read slot by slot. -/
theorem portResetEmptiesThePort : Obligations.PortResetEmptiesThePort := by
  intro s p running _ outside
  refine ⟨s.portEmptied p _ _, exec_portResetAssert_eq running outside, rfl,
    fun i c holds other => ?_, fun i c own ⟨d, issued⟩ => ?_,
    fun i c own ⟨d, b, receiving⟩ => ?_, fun i c share n m own sending => ?_, fun i idle => ?_,
    fun i c d b data receiving => State.channelAtPortReset_of_data data receiving,
    State.channelAtPortReset_of_not_data⟩
  · simpa using Slot.portReset_of_other holds other
  · simp [issued, Slot.portReset, own]
  · simp [receiving, Slot.portReset, own]
  · simp [sending, Slot.portReset, own]
  · simpa using Slot.portReset_of_idle idle

end Sys2Proof.Machine
end

section
/-! SUPPORT and PROOFS. The grant arbiter: when a head is grantable, which bids enter and which port
they name, what the decision names at each position, and when GRANT grants nothing. -/

namespace Sys2Proof.Machine

/-! ### Grantable heads -/

/-- A request passes the conflict check exactly when every slot that holds its block holds a read,
and it is a read too (R46). -/
theorem State.conflict_eq_false_iff {s : State} {block : Block} {kind : Kind} :
    s.conflict block kind = false ↔
      ∀ i, ∀ c ∈ (s.slot i).command?, c.block = block → c.kind = .read ∧ kind = .read := by
  simp only [conflict, toList_eq_map_look, List.any_map, List.any_eq_false, List.mem_finRange,
    true_imp_iff]
  refine forall_congr' fun i => ?_
  show ¬ (s.slot i).conflicts block kind = true ↔ _
  cases holds : (s.slot i).command? <;> simp [Slot.conflicts, holds]

/-- The states of a port in which its head may be granted (R45). -/
theorem PortMode.grants_iff {mode : PortMode} :
    mode.grants = true ↔ mode = .active ∨ mode = .draining := by
  cases mode <;> simp [grants]

/-- The tests of Table 14, one by one. -/
theorem State.passes_iff {s : State} {p : PortId} {q : QueuedRequest} :
    s.passes p q = true ↔
      ((s.port p).mode = .active ∨ (s.port p).mode = .draining)
      ∧ (∀ i, ∀ c ∈ (s.slot i).command?, c.block = q.block → c.kind = .read ∧ q.kind = .read)
      ∧ s.inFlightCount p < (s.port p).settings.inFlightLimit
      ∧ (q.kind = .read → q.length ≤ s.readStoreFree) := by
  have room : (q.kind = .write ∨ q.length ≤ s.readStoreFree)
      ↔ (q.kind = .read → q.length ≤ s.readStoreFree) := by
    cases q.kind <;> simp
  simp only [passes, Bool.and_eq_true, Bool.or_eq_true, Bool.not_eq_true', decide_eq_true_eq,
    PortMode.grants_iff, conflict_eq_false_iff, room, and_assoc]

/-- The grantable head is the head of the queue, if it passes the tests (R45). -/
theorem State.grantableHead_eq_some {s : State} {p : PortId} {q : QueuedRequest} :
    s.grantableHead p = some q ↔ (s.port p).queue.head? = some q ∧ s.passes p q = true := by
  cases queue : (s.port p).queue with
  | nil => simp [grantableHead, queue]
  | cons r rest =>
    simp only [grantableHead, queue, List.head?_cons, Option.ite_none_right_eq_some,
      Option.some.injEq]
    constructor
    · rintro ⟨passes, rfl⟩
      exact ⟨rfl, passes⟩
    · rintro ⟨rfl, passes⟩
      exact ⟨passes, rfl⟩

/-- Settles O21: the head of the queue, and the tests of Table 14. -/
theorem grantableHeadConditions : Obligations.GrantableHeadConditions := by
  intro s p q
  rw [State.grantableHead_eq_some, State.passes_iff]

/-! ### Bids -/

/-- A port bids the value of R57 exactly when it has a grantable head, and its depth is at least its
start level or the head is urgent (R55). -/
theorem State.bid_eq_some {s : State} {p : PortId} {v : Nat} :
    s.bid p = some v ↔ ∃ q, s.grantableHead p = some q
      ∧ ((s.port p).settings.startLevel.depth ≤ (s.port p).queue.length ∨ s.urgent p q = true)
      ∧ v = bidValue (s.urgent p q) (s.port p).settings.weight.toNat (s.port p).queue.length
          p.val := by
  cases head : s.grantableHead p with
  | none => simp [bid, head]
  | some r =>
    simp only [bid, head, Option.ite_none_right_eq_some, Option.some.injEq, Bool.or_eq_true,
      decide_eq_true_eq]
    constructor
    · rintro ⟨bids, rfl⟩
      exact ⟨r, rfl, bids, rfl⟩
    · rintro ⟨q, rfl, bids, rfl⟩
      exact ⟨bids, rfl⟩

/-- A bid enters exactly when it is greater than the threshold (R58). -/
theorem State.enteringBid_eq_some {s : State} {p : PortId} {v : Nat} :
    s.enteringBid p = some v ↔ s.bid p = some v ∧ s.threshold.toNat < v := by
  cases bids : s.bid p with
  | none => simp [enteringBid, bids]
  | some w =>
    simp only [enteringBid, bids, Option.ite_none_right_eq_some, Option.some.injEq]
    constructor
    · rintro ⟨enters, rfl⟩
      exact ⟨rfl, enters⟩
    · rintro ⟨rfl, enters⟩
      exact ⟨enters, rfl⟩

/-- The bid of a port tells its number, so no two ports bid the same (R57). -/
theorem State.enteringBid_mod {s : State} {p : PortId} {v : Nat} (h : s.enteringBid p = some v) :
    v % 4 = p.val := by
  obtain ⟨q, -, -, rfl⟩ := bid_eq_some.1 (enteringBid_eq_some.1 h).1
  unfold bidValue
  omega

/-- The better of two bids is at least as high as both. -/
theorem State.le_betterBid {s : State} {best : Option (PortId × Nat)} {p : PortId} {v : Nat}
    (h : (∃ x ∈ best, v ≤ x.2) ∨ s.enteringBid p = some v) :
    ∃ x ∈ s.betterBid best p, v ≤ x.2 := by
  cases bids : s.enteringBid p with
  | none =>
    have old := h.resolve_right (by simp [bids])
    simpa only [betterBid, bids] using old
  | some w =>
    cases best with
    | none => exact ⟨(p, w), by simp [betterBid, bids], by simp_all⟩
    | some y =>
      have upper : v ≤ y.2 ∨ v = w := by
        rcases h with ⟨x, hx, le⟩ | own
        · obtain rfl := Option.some.inj hx
          exact .inl le
        · exact .inr (Option.some.inj (own.symm.trans bids))
      simp only [betterBid, bids]
      split
      · exact ⟨_, rfl, by dsimp only; omega⟩
      · exact ⟨_, rfl, by dsimp only; omega⟩

/-- The fold over ports ends with a bid at least as high as the best before it and every bid that
enters (R58). -/
theorem State.le_foldl_betterBid {s : State} {v : Nat} (ports : List PortId)
    (best : Option (PortId × Nat))
    (h : (∃ x ∈ best, v ≤ x.2) ∨ ∃ p ∈ ports, s.enteringBid p = some v) :
    ∃ x ∈ ports.foldl s.betterBid best, v ≤ x.2 := by
  induction ports generalizing best with
  | nil => simpa using h
  | cons p ports ih =>
    refine ih _ ?_
    rcases h with old | ⟨q, listed, bids⟩
    · exact .inl (le_betterBid (.inl old))
    · rcases List.mem_cons.1 listed with rfl | later
      · exact .inl (le_betterBid (.inr bids))
      · exact .inr ⟨q, later, bids⟩

/-- The highest entering bid with its port, if a bid enters (R58). -/
def State.highestBid (s : State) : Option (PortId × Nat) :=
  (List.finRange 4).foldl s.betterBid none

theorem State.bidWinner_eq (s : State) : s.bidWinner = s.highestBid.map Prod.fst := rfl

/-- The highest entering bid is the bid of its port. -/
theorem State.enteringBid_of_highest {s : State} {x : PortId × Nat} (h : s.highestBid = some x) :
    s.enteringBid x.1 = some x.2 :=
  foldl_betterBid _ none (by simp) x h

/-- Where a bid enters, there is a highest, at least as high. -/
theorem State.le_highestBid {s : State} {p : PortId} {v : Nat} (h : s.enteringBid p = some v) :
    ∃ x, s.highestBid = some x ∧ v ≤ x.2 :=
  le_foldl_betterBid _ none (.inr ⟨p, List.mem_finRange p, h⟩)

/-- The winner is the port whose entering bid is above those of all the others (R58). -/
theorem State.bidWinner_eq_some {s : State} {p : PortId} :
    s.bidWinner = some p ↔ ∃ v, s.enteringBid p = some v
      ∧ ∀ q w, q ≠ p → s.enteringBid q = some w → w < v := by
  rw [bidWinner_eq, Option.map_eq_some_iff]
  constructor
  · rintro ⟨x, highest, rfl⟩
    have own := enteringBid_of_highest highest
    refine ⟨x.2, own, fun q w other bids => ?_⟩
    obtain ⟨y, highest', le⟩ := le_highestBid bids
    obtain rfl : x = y := Option.some.inj (highest.symm.trans highest')
    refine lt_of_le_of_ne le fun same => other (Fin.ext ?_)
    rw [← enteringBid_mod bids, ← enteringBid_mod own, same]
  · rintro ⟨v, own, below⟩
    obtain ⟨x, highest, le⟩ := le_highestBid own
    refine ⟨x, highest, ?_⟩
    by_contra other
    exact absurd (below x.1 x.2 other (enteringBid_of_highest highest)) (not_lt.2 le)

/-- No port wins exactly when no bid enters (R58). -/
theorem State.bidWinner_eq_none {s : State} :
    s.bidWinner = none ↔ ∀ q, s.enteringBid q = none := by
  rw [bidWinner_eq, Option.map_eq_none_iff]
  constructor
  · intro none q
    by_contra bids
    obtain ⟨v, enters⟩ := Option.ne_none_iff_exists'.1 bids
    obtain ⟨x, highest, -⟩ := le_highestBid enters
    simp [none] at highest
  · intro none
    by_contra some
    obtain ⟨x, highest⟩ := Option.ne_none_iff_exists'.1 some
    have := enteringBid_of_highest highest
    simp [none x.1] at this

/-- Settles O22, with the urgency of R56 read off its definition. -/
theorem highestEnteringBidWins : Obligations.HighestEnteringBidWins := by
  refine fun s p => ⟨fun v => ?_, fun q => ?_, State.bidWinner_eq_some, State.bidWinner_eq_none⟩
  · rw [State.enteringBid_eq_some, State.bid_eq_some]
    simp only [← exists_and_right, and_assoc]
  · show s.urgent p q = true ↔ _ ∧ _ ≤ s.age q
    simp only [State.urgent, Bool.and_eq_true, decide_eq_true_eq]

/-- The order of bid values: no lower part of a value reaches to the unit of a higher one (R57). -/
theorem bidValue_lt_iff {u v : Bool} {weight weight' : BitVec 4} {depth depth' : Nat}
    {p q : PortId} (low : 1 ≤ depth) (high : depth ≤ 16) (low' : 1 ≤ depth')
    (high' : depth' ≤ 16) :
    bidValue u weight.toNat depth p.val < bidValue v weight'.toNat depth' q.val ↔
      (u = false ∧ v = true)
      ∨ (u = v ∧ weight.toNat < weight'.toNat)
      ∨ (u = v ∧ weight = weight' ∧ depth < depth')
      ∨ (u = v ∧ weight = weight' ∧ depth = depth' ∧ p < q) := by
  rw [← BitVec.toNat_inj, Fin.lt_def]
  unfold bidValue
  cases u <;> cases v <;> simp <;> omega

/-- Settles O20: linear arithmetic over the bounds of weight, depth and port. -/
theorem bidValueOrdersPorts : Obligations.BidValueOrdersPorts := by
  refine ⟨fun u v weight weight' depth depth' p q low high low' high' => ?_,
    fun s p value bids => ?_⟩
  · refine ⟨?_, ?_, ?_, ?_, ?_, bidValue_lt_iff low high low' high'⟩
    · cases u <;> rfl
    · unfold bidValue
      omega
    · have urgency := Bool.toNat_le u
      unfold bidValue
      omega
    · rintro rfl
      simp only [bidValue, Bool.toNat_true]
      omega
    · rintro rfl
      simp only [bidValue, Bool.toNat_false]
      omega
  · obtain ⟨q, head, -, is⟩ := State.bid_eq_some.1 bids
    exact ⟨q, head, is⟩

/-! ### The decision at each position -/

/-- The budget of an occurrence is enough for a head when it is unlimited or not less (R51). -/
theorem Occurrence.tooSmallFor_eq_false {o : Occurrence} {length : Nat} :
    o.tooSmallFor length = false ↔ o.unlimited = true ∨ length ≤ o.remaining := by
  cases limit : o.unlimited <;> simp [tooSmallFor, limit]

/-- The decision in a guard interval (R50). -/
theorem State.decision_of_guard {s : State} {w : WindowId} (at_ : s.position = .guard w) :
    s.decision = none := by
  simp [decision, at_]

/-- The decision in a window whose owner's head fits the budget (R51). -/
theorem State.decision_of_fits {s : State} {w : WindowId} {q : QueuedRequest}
    (at_ : s.position = .window w) (head : s.grantableHead (s.active.window w).owner = some q)
    (fits : (s.occurrence w).unlimited = true ∨ q.length ≤ (s.occurrence w).remaining) :
    s.decision = some ((s.active.window w).owner, .byWindow w) := by
  simp [decision, at_, windowGrant, head, Occurrence.tooSmallFor_eq_false.2 fits]

/-- The decision in a window that makes no window grant (R53, R54). -/
theorem State.decision_of_unused {s : State} {w : WindowId} (at_ : s.position = .window w)
    (unused : ∀ q, s.grantableHead (s.active.window w).owner = some q →
      ¬ ((s.occurrence w).unlimited = true ∨ q.length ≤ (s.occurrence w).remaining)) :
    s.decision
      = if (s.active.window w).lend then s.bidWinner.map fun p => (p, .lent w) else none := by
  have noGrant : s.windowGrant w = none := by
    unfold windowGrant
    split
    · rename_i q head
      have short := mt Occurrence.tooSmallFor_eq_false.1 (unused q head)
      simpa using short
    · rfl
  simp [decision, at_, noGrant]

/-- Settles O23, by the position and the owner's head. -/
theorem decisionByPosition : Obligations.DecisionByPosition := by
  refine fun s => ⟨fun w => State.decision_of_guard, fun at_ => ?_, fun w at_ => ?_⟩
  · simp [State.decision, at_]
  · refine ⟨fun q head fits => State.decision_of_fits at_ head fits, fun unused => ?_⟩
    have decided := State.decision_of_unused at_ unused
    exact ⟨fun keeps => by simpa [keeps] using decided,
      fun lends => by simpa [lends] using decided⟩

/-! ### GRANT without a named port -/

theorem Slot.isFree_iff {x : Slot} : x.isFree = true ↔ x = .free := by
  cases x <;> simp [isFree]

/-- GRANT while the conditions of R43 fail. -/
theorem exec_grant_of_not_may {s : State} (idle : s.mayDecide = false) :
    exec .grant s = .next s := by
  simp [exec, execGrant, idle]

/-- GRANT where the decision names no port (R44, R53). -/
theorem exec_grant_of_none {s : State} (may : s.mayDecide = true) (none : s.decision = none) :
    exec .grant s = .next s.takeDecision := by
  simp [exec, execGrant, may, none]

/-- Settles O26. In a guard no window is short either, so GRANT changes nothing. -/
theorem noGrantWithoutANamedPort : Obligations.NoGrantWithoutANamedPort := by
  refine fun s => ⟨?_, exec_grant_of_not_may, exec_grant_of_none, fun w at_ => ?_⟩
  · simpa only [Slot.isFree_iff] using s.mayDecide_iff
  · cases may : s.mayDecide with
    | false => exact exec_grant_of_not_may may
    | true =>
      have unmarked : s.takeDecision = s :=
        State.takeDecision_of_none (by simp [State.shortWindow, at_])
      rw [exec_grant_of_none may (State.decision_of_guard at_), unmarked]

end Sys2Proof.Machine
end

section
/-! SUPPORT and PROOFS. The outstanding table: the soundness of a table read slot by slot, one rule
per operation on the slots and the completion channel, and that every step keeps the table sound. -/

namespace Sys2Proof.Machine

/-! ### The table, slot by slot -/

/-- The slot whose completion the channel is busy with (R71). -/
def CompletionChannel.slot? : CompletionChannel → Option SlotId
  | .awaitHeader => none
  | .data i => some i
  | .discard i => i

@[simp] theorem CompletionChannel.slot?_awaitHeader : awaitHeader.slot? = none := rfl

@[simp] theorem CompletionChannel.slot?_data (i : SlotId) : (data i).slot? = some i := rfl

@[simp] theorem CompletionChannel.slot?_discard (i : Option SlotId) : (discard i).slot? = i := rfl

/-- The channel is busy with no slot but perhaps `i`. -/
def CompletionChannel.Only (channel : CompletionChannel) (i : SlotId) : Prop :=
  ∀ j ≠ i, channel.slot? ≠ some j

theorem CompletionChannel.Only.of_busy {channel : CompletionChannel} {i : SlotId}
    (h : channel.slot? = some i) : channel.Only i := by
  intro j other busy
  exact other (Option.some.inj (busy.symm.trans h))

theorem CompletionChannel.Only.of_idle {channel : CompletionChannel} (h : channel.slot? = none)
    (i : SlotId) : channel.Only i := by
  intro j _
  simp [h]

/-- Slot `i` and the completion channel agree on the completion in progress, and a slot in RECEIVING
holds a read that has room for the beats it received (R65, R71, R75, R77). -/
def Slot.Agrees (channel : CompletionChannel) (i : SlotId) : Slot → Prop
  | .receiving c _ beats =>
    channel.slot? = some i ∧ c.kind = .read ∧ beats.length ≤ c.length
  | .orphaned _ => channel ≠ .data i
  | .free => channel.slot? ≠ some i
  | .sending _ _ _ _ => channel.slot? ≠ some i
  | .issued _ _ => channel.slot? ≠ some i

/-- A channel is busy with a slot exactly in DATA or DISCARD for it. -/
theorem CompletionChannel.slot?_eq_some {channel : CompletionChannel} {i : SlotId} :
    channel.slot? = some i ↔ channel = .data i ∨ channel = .discard (some i) := by
  cases channel <;> simp

/-- The part of a sound table that concerns one slot. -/
theorem Slot.agrees_iff {channel : CompletionChannel} {i : SlotId} {x : Slot} :
    x.Agrees channel i ↔
      (x.isReceiving = true → channel = .data i ∨ channel = .discard (some i))
      ∧ (channel = .data i → x.isReceiving = true)
      ∧ (channel = .discard (some i) → x.isReceiving = true ∨ x.isOrphaned = true)
      ∧ x.receivingSound = true := by
  cases x with
  | receiving c d beats =>
    simp [Agrees, isReceiving, receivingSound, CompletionChannel.slot?_eq_some]
  | orphaned c => simp [Agrees, isReceiving, isOrphaned, receivingSound]
  | free | sending c share taken mark | issued c d =>
    simp [Agrees, isReceiving, isOrphaned, receivingSound, CompletionChannel.slot?_eq_some]

/-- A table is sound exactly when its commands may be in memory together, one is in transfer, and
each slot agrees with the channel. -/
theorem State.tableSound_iff {s : State} :
    s.TableSound ↔
      s.BlocksExclusive ∧ s.OneSending ∧ ∀ i, (s.slot i).Agrees s.completion i := by
  simp only [TableSound, ChannelSound, Slot.agrees_iff, forall_and, and_assoc]

theorem State.TableSound.agrees {s : State} (h : s.TableSound) (i : SlotId) :
    (s.slot i).Agrees s.completion i := by
  obtain ⟨_, _, agrees⟩ := tableSound_iff.1 h
  exact agrees i

/-- A slot that neither channel is busy with agrees with both or with none. -/
theorem Slot.Agrees.elsewhere {x : Slot} {channel channel' : CompletionChannel} {i : SlotId}
    (h : x.Agrees channel i) (idle : channel.slot? ≠ some i) (idle' : channel'.slot? ≠ some i) :
    x.Agrees channel' i := by
  cases x with
  | receiving c d beats => exact absurd h.1 idle
  | orphaned c => exact fun data => idle' (by simp [data])
  | free | sending c share taken mark | issued c d => exact idle'

/-! ### Slots that take over no new command -/

/-- The second slot holds no command but that of the first, and is in SENDING only if the first
is. -/
structure Slot.Follows (x y : Slot) : Prop where
  command : ∀ c ∈ y.command?, c ∈ x.command?
  sending : y.isSending = true → x.isSending = true

theorem Slot.Follows.refl (x : Slot) : x.Follows x := ⟨fun _ => id, id⟩

theorem Slot.follows_free (x : Slot) : x.Follows .free := by
  constructor <;> simp [command?, isSending]

/-- A slot orphaned keeps its command (R79). -/
theorem Slot.follows_orphaned {x : Slot} {c : Command} (holds : x.command? = some c) :
    x.Follows (.orphaned c) :=
  ⟨fun _ h => holds.trans h, fun sending => by cases sending⟩

theorem Slot.follows_countDown (x : Slot) : x.Follows x.countDown := by
  cases x <;> exact ⟨fun _ => id, id⟩

theorem Slot.follows_portReset (p : PortId) (x : Slot) : x.Follows (x.portReset p) := by
  cases x with
  | issued c d | receiving c d beats =>
    simp only [portReset]
    split
    · exact follows_orphaned rfl
    · exact .refl _
  | free | sending c share taken mark | orphaned c => exact ⟨fun _ => id, id⟩

/-- A table where no slot takes over a new command stays sound, if its slots agree with the
channel. -/
theorem State.TableSound.of_follows {s t : State} (h : s.TableSound)
    (follows : ∀ i, (s.slot i).Follows (t.slot i))
    (agrees : ∀ i, (t.slot i).Agrees t.completion i) : t.TableSound := by
  obtain ⟨exclusive, oneSending, _⟩ := tableSound_iff.1 h
  refine tableSound_iff.2 ⟨fun i j other c hc d hd => ?_, fun i j hi hj => ?_, agrees⟩
  · exact exclusive i j other c ((follows i).command c hc) d ((follows j).command d hd)
  · exact oneSending i j ((follows i).sending hi) ((follows j).sending hj)

/-- A table with the same slots and the same channel. -/
theorem State.TableSound.of_same {s t : State} (h : s.TableSound)
    (same : t.slots = s.slots ∧ t.completion = s.completion) : t.TableSound := by
  obtain ⟨slots, channel⟩ := same
  have slot : ∀ i, t.slot i = s.slot i := fun i => by simp only [State.slot, slots]
  exact h.of_follows (fun i => slot i ▸ .refl _) fun i => by rw [slot, channel]; exact h.agrees i

/-- A change of one slot, and of the channel if it is busy with no other slot. -/
theorem State.TableSound.change {s t : State} {i : SlotId} (h : s.TableSound)
    (others : ∀ j ≠ i, t.slot j = s.slot j) (follows : (s.slot i).Follows (t.slot i))
    (agrees : (t.slot i).Agrees t.completion i)
    (channel : t.completion = s.completion ∨ s.completion.Only i ∧ t.completion.Only i) :
    t.TableSound := by
  refine h.of_follows (fun j => ?_) fun j => ?_
  · by_cases hj : j = i
    · exact hj ▸ follows
    · exact others j hj ▸ .refl _
  · by_cases hj : j = i
    · exact hj ▸ agrees
    · rw [others j hj]
      rcases channel with same | ⟨only, only'⟩
      · exact same ▸ h.agrees j
      · exact (h.agrees j).elsewhere (only j hj) (only' j hj)

/-- A change of one slot under a channel that stays. -/
theorem State.TableSound.withSlot {s : State} {i : SlotId} {x : Slot} (h : s.TableSound)
    (follows : (s.slot i).Follows x) (agrees : x.Agrees s.completion i) :
    (s.withSlot i x).TableSound :=
  h.change (fun _ other => s.withSlot_slot_of_ne x other) (by simpa using follows)
    (by simpa using agrees) (.inl rfl)

/-- The freeing of the one slot that the channel may be busy with, which leaves it idle. -/
theorem State.TableSound.freed {s t : State} {i : SlotId} (h : s.TableSound)
    (only : s.completion.Only i) (slots : t.slots = (s.withSlot i .free).slots)
    (idle : t.completion = .awaitHeader) : t.TableSound := by
  have slot : ∀ j, t.slot j = (s.withSlot i .free).slot j := fun j => by
    simp only [State.slot, slots]
  refine h.change (i := i) (fun j other => ?_) ?_ ?_ (.inr ⟨only, idle ▸ .of_idle rfl i⟩)
  · rw [slot, withSlot_slot_of_ne _ _ other]
  · rw [slot, withSlot_slot_same]
    exact Slot.follows_free _
  · rw [slot, withSlot_slot_same]
    simp [Slot.Agrees, idle]

/-- A channel idle before and after, over the same slots. -/
theorem State.TableSound.of_idle {s t : State} (h : s.TableSound) (slots : t.slots = s.slots)
    (idle : s.completion.slot? = none) (idle' : t.completion.slot? = none) : t.TableSound := by
  have slot : ∀ i, t.slot i = s.slot i := fun i => by simp only [State.slot, slots]
  refine h.of_follows (fun i => slot i ▸ .refl _) fun i => ?_
  rw [slot]
  exact (h.agrees i).elsewhere (by simp [idle]) (by simp [idle'])

/-- A table with every slot FREE and the channel idle (R4, R85). -/
theorem State.tableSound_of_free {t : State} (free : ∀ i, t.slot i = .free)
    (idle : t.completion = .awaitHeader) : t.TableSound := by
  refine tableSound_iff.2 ⟨?_, ?_, fun i => ?_⟩
  · simp [BlocksExclusive, free, Slot.command?]
  · simp [OneSending, free, Slot.isSending]
  · simp [free, idle, Slot.Agrees]

/-! ### Grants and transfers -/

/-- A grant puts on a FREE slot a command that passed the conflict check, while no other is in
transfer (R43, R46, R66). -/
theorem State.TableSound.grant {s : State} (h : s.TableSound) {p : PortId} {course : Course}
    {q : QueuedRequest} {rest : List QueuedRequest} {i : SlotId} (free : s.lowestFree = some i)
    (queue : (s.port p).queue = q :: rest) (passes : s.passes p q = true)
    (idle : ∀ j, (s.slot j).isSending = false) : (s.grant p course).TableSound := by
  obtain ⟨exclusive, _, agrees⟩ := tableSound_iff.1 h
  obtain ⟨-, clear, -, -⟩ := passes_iff.1 passes
  have granted : (s.grant p course).slot i = .sending (q.command p) q.share 0 false := by
    simp [grant_eq free queue]
  have others : ∀ j ≠ i, (s.grant p course).slot j = s.slot j := fun j other => by
    simp [grant_eq free queue, withSlot_slot_of_ne _ _ other]
  have channel : (s.grant p course).completion = s.completion := by simp
  have compatible : ∀ j ≠ i, ∀ c ∈ (s.slot j).command?, (q.command p).Compatible c :=
    fun j _ c hc same => (clear j c hc same.symm).symm
  refine tableSound_iff.2 ⟨fun j k other c hc d hd => ?_, fun j k hj hk => ?_, fun j => ?_⟩
  · by_cases hj : j = i
    · subst hj
      rw [granted] at hc
      rw [others k other.symm] at hd
      obtain rfl : q.command p = c := by simpa [Slot.command?] using hc
      exact compatible k other.symm d hd
    · rw [others j hj] at hc
      by_cases hk : k = i
      · subst hk
        rw [granted] at hd
        obtain rfl : q.command p = d := by simpa [Slot.command?] using hd
        exact fun same => (compatible j hj c hc same.symm).symm
      · rw [others k hk] at hd
        exact exclusive j k other c hc d hd
  · have isGranted : ∀ l, ((s.grant p course).slot l).isSending = true → l = i := by
      intro l hl
      by_contra other
      rw [others l other, idle l] at hl
      cases hl
    rw [isGranted j hj, isGranted k hk]
  · by_cases hj : j = i
    · subst hj
      have unused := agrees j
      rw [slot_of_lowestFree free] at unused
      rw [granted, channel]
      exact unused
    · rw [others j hj, channel]
      exact agrees j

/-- The end of a transfer makes the slot ISSUED or ORPHANED (R69). -/
theorem State.TableSound.transferred {s : State} (h : s.TableSound) {i : SlotId} {c : Command}
    {share : Option (List WriteBeat)} {taken : Nat} {mark : Bool}
    (slot : s.slot i = .sending c share taken mark) :
    (s.withSlot i (s.transferred c mark)).TableSound := by
  have unused : s.completion.slot? ≠ some i := by
    have agrees := h.agrees i
    rwa [slot] at agrees
  unfold State.transferred
  split
  · refine h.withSlot (Slot.follows_orphaned (by simp [slot, Slot.command?])) fun data => ?_
    exact unused (by simp [data])
  · refine h.withSlot ?_ unused
    rw [slot]
    exact ⟨fun _ => id, fun sending => by cases sending⟩

/-! ### Completions -/

/-- The end of the completion the channel is busy with frees its slot, and leaves the channel idle
(R76, R77). -/
theorem State.TableSound.endCompletion {s : State} (h : s.TableSound) {i : SlotId}
    (busy : s.completion.slot? = some i) :
    (s.endCompletion i).TableSound ∧ (s.endCompletion i).completion = .awaitHeader := by
  have only := CompletionChannel.Only.of_busy busy
  have agrees := h.agrees i
  cases slot : s.slot i with
  | receiving c d beats =>
    simp only [State.endCompletion, slot]
    exact ⟨h.freed only (by simp [State.mismatch]) (by simp [State.mismatch]),
      by simp [State.mismatch]⟩
  | orphaned c =>
    simp only [State.endCompletion, slot]
    exact ⟨h.freed only (by simp [State.lateEnd]) (by simp [State.lateEnd]),
      by simp [State.lateEnd]⟩
  | free | sending c share taken mark | issued c d =>
    rw [slot] at agrees
    exact absurd busy agrees

/-- A header ends the completion in progress, if there is one, and leaves the channel idle (R76). -/
theorem State.TableSound.interrupt {s : State} (h : s.TableSound) :
    s.interrupt.TableSound ∧ s.interrupt.completion = .awaitHeader := by
  unfold State.interrupt
  split
  · rename_i channel
    exact ⟨h, channel⟩
  · rename_i channel
    exact h.endCompletion (by simp [channel])
  · rename_i channel
    exact h.endCompletion (by simp [channel])
  · rename_i channel
    exact ⟨h.of_idle rfl (by simp [channel]) rfl, rfl⟩

/-- A stray header touches no slot (R78). -/
theorem State.TableSound.strayHeader {s : State} (h : s.TableSound)
    (channel : s.completion = .awaitHeader) (i : SlotId) (kind : Kind) (status : MemStatus) :
    (s.strayHeader i kind status).TableSound := by
  refine h.of_idle (by simp [State.strayHeader]) (by simp [channel]) ?_
  simp only [State.strayHeader, record_rest, withChannel_completion]
  split <;> rfl

/-- A late header frees its orphan, or begins to discard the beats that follow (R77). -/
theorem State.TableSound.lateHeader {s : State} (h : s.TableSound)
    (channel : s.completion = .awaitHeader) {i : SlotId} {c : Command}
    (slot : s.slot i = .orphaned c) (kind : Kind) (status : MemStatus) :
    (s.lateHeader i c kind status).TableSound := by
  have idle : s.completion.slot? = none := by rw [channel]; rfl
  unfold State.lateHeader
  split
  · refine h.change (i := i) (fun _ _ => rfl) (.refl _) ?_
      (.inr ⟨.of_idle idle i, .of_busy rfl⟩)
    simp [slot, Slot.Agrees]
  · exact h.freed (i := i) (.of_idle idle i) (by simp [State.lateEnd])
      (by simp [State.lateEnd])

/-- A matching header frees its slot, or makes it the one in RECEIVING (R73, R74, R75). -/
theorem State.TableSound.issuedHeader {s : State} (h : s.TableSound)
    (channel : s.completion = .awaitHeader) {i : SlotId} {c : Command} {d : Deadline}
    (slot : s.slot i = .issued c d) (status : MemStatus) :
    (s.issuedHeader i c d status).TableSound := by
  have idle : s.completion.slot? = none := by rw [channel]; rfl
  have only := CompletionChannel.Only.of_idle idle i
  cases status with
  | fault =>
    exact h.freed only (by simp [State.issuedHeader, faultCompletion])
      (by simp [State.issuedHeader, faultCompletion, channel])
  | good =>
    cases kind : c.kind with
    | write =>
      exact h.freed only (by simp [State.issuedHeader, kind])
        (by simp [State.issuedHeader, kind, channel])
    | read =>
      simp only [State.issuedHeader, kind]
      refine h.change (i := i) (fun _ other => s.withSlot_slot_of_ne _ other) ?_ ?_
        (.inr ⟨only, .of_busy rfl⟩)
      · simp only [withChannel_slot, withSlot_slot_same, slot]
        exact ⟨fun _ => id, fun sending => by cases sending⟩
      · simp [Slot.Agrees, kind]

/-- A header taken in AWAIT_HEADER, whatever its class (R72). -/
theorem State.TableSound.classifyHeader {s : State} (h : s.TableSound)
    (channel : s.completion = .awaitHeader) (i : SlotId) (kind : Kind) (status : MemStatus) :
    (s.classifyHeader i kind status).TableSound := by
  have stray := h.strayHeader channel i kind status
  unfold State.classifyHeader
  split
  · exact stray
  · exact stray
  · exact stray
  · rename_i c slot
    split
    · exact h.lateHeader channel slot kind status
    · exact stray
  · rename_i c d slot
    split
    · exact h.issuedHeader channel slot status
    · exact stray

/-- A beat in DATA is placed where there is room for it, ends the completion, or turns the channel
to DISCARD (R75, R76). -/
theorem State.TableSound.dataBeat {s : State} (h : s.TableSound) {i : SlotId} {c : Command}
    {d : Deadline} {beats : List BeatData} (channel : s.completion = .data i)
    (slot : s.slot i = .receiving c d beats) (data : BeatData) (last : Bool) :
    (s.dataBeat i c d beats data last).TableSound := by
  have busy : s.completion.slot? = some i := by rw [channel]; rfl
  have only := CompletionChannel.Only.of_busy busy
  have agrees := h.agrees i
  rw [slot] at agrees
  obtain ⟨-, read, room⟩ := agrees
  have mismatched : (s.mismatch i c).takeDecision.TableSound :=
    h.freed only (by simp [mismatch]) (by simp [mismatch])
  unfold State.dataBeat
  repeat' split
  · exact h.freed only (by simp [goodRead]) (by simp [goodRead])
  · exact mismatched
  · rename_i short _
    refine h.withSlot ?_ ⟨busy, read, by simpa using short⟩
    rw [slot]
    exact ⟨fun _ => id, id⟩
  · exact mismatched
  · refine h.change (i := i) (fun _ _ => rfl) (.refl _) ?_ (.inr ⟨only, .of_busy rfl⟩)
    simp only [withChannel_slot, slot]
    exact ⟨rfl, read, room⟩

/-! ### Expiries, resets and the link -/

/-- A slot orphaned while the channel receives its beats leaves them to be discarded (R79). -/
theorem State.TableSound.orphan {s : State} (h : s.TableSound) (i : SlotId) :
    (s.orphan i).TableSound := by
  have agrees := h.agrees i
  cases slot : s.slot i with
  | issued c d =>
    rw [slot] at agrees
    rw [orphan_of_issued slot]
    exact h.withSlot (Slot.follows_orphaned (by simp [slot, Slot.command?]))
      fun data => agrees (by simp [data])
  | receiving c d beats =>
    rw [slot] at agrees
    rw [orphan_of_receiving slot]
    obtain ⟨busy, -, -⟩ := agrees
    refine h.change (i := i) (fun _ other => s.withSlot_slot_of_ne _ other) ?_ ?_
      (.inr ⟨.of_busy busy, .of_busy ?_⟩)
    · refine (s.withSlot_slot_same i (.orphaned c)).symm ▸ Slot.follows_orphaned ?_
      simp [slot, Slot.command?]
    · refine (s.withSlot_slot_same i (.orphaned c)).symm ▸ ?_
      simp only [Slot.Agrees]
      split <;> simp_all
    · dsimp only
      split
      · rfl
      · exact busy
  | free | sending c share taken mark | orphaned c => simpa only [State.orphan, slot] using h

theorem State.TableSound.expireSlot {s : State} (h : s.TableSound) (i : SlotId) :
    (s.expireSlot i).TableSound := by
  have expired : ∀ c x, (s.expire i c x).TableSound := fun c x =>
    (h.orphan i).of_same (by simp [State.expire])
  rcases s.expireSlot_cases i with same | ⟨c, d, -, becomes⟩ | ⟨c, d, beats, -, becomes⟩
  · rwa [same]
  · exact becomes ▸ expired c _
  · exact becomes ▸ expired c _

/-- The countdown changes deadline counts only (R117). -/
theorem State.TableSound.counted {s : State} (h : s.TableSound) : s.counted.TableSound := by
  refine h.of_follows (fun i => ?_) fun i => ?_
  · rw [counted_slot]
    exact Slot.follows_countDown _
  · have agrees := h.agrees i
    rw [counted_slot]
    cases slot : s.slot i <;> rw [slot] at agrees <;> exact agrees

/-- A port reset leaves the channel busy with the slot it was busy with (R79). -/
theorem State.channelAtPortReset_slot? (s : State) (p : PortId) :
    (s.channelAtPortReset p).slot? = s.completion.slot? := by
  cases channel : s.completion with
  | data i =>
    cases slot : s.slot i with
    | receiving c d beats =>
      rw [channelAtPortReset_of_data channel slot]
      split <;> rfl
    | _ => simp [channelAtPortReset, channel, slot]
  | awaitHeader | discard j => simp [channelAtPortReset, channel]

/-- A DATA after a port reset was one before, for a slot of another port (R79). -/
theorem State.data_of_channelAtPortReset {s : State} {p : PortId} {i : SlotId}
    (data : s.channelAtPortReset p = .data i) :
    s.completion = .data i ∧ ∀ c d beats, s.slot i = .receiving c d beats → c.port ≠ p := by
  cases channel : s.completion with
  | data j =>
    obtain rfl : j = i := by
      have busy := s.channelAtPortReset_slot? p
      rw [data, channel] at busy
      exact (Option.some.inj busy).symm
    refine ⟨rfl, fun c d beats slot own => ?_⟩
    rw [channelAtPortReset_of_data channel slot, if_pos own] at data
    cases data
  | awaitHeader | discard j => simp [channelAtPortReset, channel] at data

/-- A port reset orphans the slots of its port, and the channel discards what comes for them (R79,
R138). -/
theorem State.TableSound.portEmptied {s : State} (h : s.TableSound) (p : PortId) (x : ReturnState)
    (report : Bool) : (s.portEmptied p x report).TableSound := by
  refine h.of_follows (fun i => ?_) fun i => ?_
  · rw [portEmptied_slot]
    exact Slot.follows_portReset p _
  · show ((s.portEmptied p x report).slot i).Agrees (s.channelAtPortReset p) i
    have agrees := h.agrees i
    rw [portEmptied_slot]
    cases slot : s.slot i with
    | receiving c d beats =>
      rw [slot] at agrees
      obtain ⟨busy, sound⟩ := agrees
      unfold Slot.portReset
      dsimp only
      split
      · rename_i own
        exact fun data => (data_of_channelAtPortReset data).2 c d beats slot own
      · exact ⟨(s.channelAtPortReset_slot? p).trans busy, sound⟩
    | issued c d =>
      rw [slot] at agrees
      have idle : (s.channelAtPortReset p).slot? ≠ some i :=
        fun busy => agrees ((s.channelAtPortReset_slot? p).symm.trans busy)
      unfold Slot.portReset
      dsimp only
      split
      · exact fun data => idle (by simp [data])
      · exact idle
    | orphaned c =>
      rw [slot] at agrees
      exact fun data => agrees (data_of_channelAtPortReset data).1
    | free | sending c share taken mark =>
      rw [slot] at agrees
      exact fun busy => agrees ((s.channelAtPortReset_slot? p).symm.trans busy)

theorem State.tableSound_takeLinkDown (s : State) (cause : DownCause) (link : LinkState) :
    (s.takeLinkDown cause link).TableSound := by
  have freed : (s.linkFreed link).TableSound := tableSound_of_free (fun i => look_tabulate _ i) rfl
  exact freed.of_same (by simp [takeLinkDown_eq])

theorem State.tableSound_resetBlocks (s : State) (frame : MgmtFrame) :
    (s.resetBlocks frame).TableSound :=
  State.reset_tableSound.of_same (by simp [resetBlocks])

/-! ### Every step -/

/-- A management command touches the table only by a link down or a reset. -/
theorem Performed.tableSound {s t : State} (e : Performed s t) (h : s.TableSound) :
    t.TableSound := by
  cases e with
  | stored f v writable unlocked inRange =>
    unfold State.storeField
    split
    · exact h.of_same (by simp)
    · exact h.of_same (by simp)
  | restarted up => exact s.tableSound_takeLinkDown _ _
  | reset => exact s.tableSound_resetBlocks _
  | _ => exact h.of_same (by simp [State.withMode])

/-- Everything a command can do keeps the table sound. -/
theorem Effect.tableSound {s t : State} (e : Effect s t) (h : s.TableSound) : t.TableSound := by
  cases e with
  | tickEnded running =>
    have advanced : s.advanceTick.TableSound := h.counted.of_same (by simp [State.advanceTick_eq])
    exact State.expireAll_keeps (P := State.TableSound) (fun t i sound => sound.expireSlot i) _ _
      advanced
  | granted p course may named =>
    obtain ⟨i, q, rest, free, queue, passes⟩ := State.grantable_of_decision may named
    obtain ⟨-, idle, -⟩ := s.mayDecide_iff.1 may
    have decided : s.takeDecision.TableSound := h.of_same (by simp)
    exact decided.grant free queue passes (by simpa using idle)
  | itemTaken i c share taken mark running slot more =>
    have agrees := h.agrees i
    rw [slot] at agrees
    refine h.withSlot ?_ agrees
    rw [slot]
    exact ⟨fun _ => id, id⟩
  | transferEnded i c share taken mark running slot last =>
    exact (h.transferred slot).of_same (by simp)
  | headerTaken i kind status running up =>
    obtain ⟨sound, channel⟩ := h.interrupt
    exact (sound.classifyHeader channel i kind status).of_same (by simp)
  | strayBeat last running up channel =>
    refine h.of_idle (by simp [State.strayBeat]) (by simp [channel]) ?_
    simp only [State.strayBeat, State.record_rest, State.withChannel_completion]
    split <;> rfl
  | dataBeat i c d beats data last running up channel slot =>
    exact h.dataBeat channel slot data last
  | discardEnded i running up channel =>
    exact (h.endCompletion (i := i) (by simp [channel])).1.of_same (by simp)
  | runEnded running up channel => exact h.of_idle rfl (by simp [channel]) rfl
  | expired i running ends =>
    have reached : s.reachTickEnd.TableSound := h.of_same (by simp)
    exact reached.expireSlot i
  | linkDown running up => exact State.tableSound_takeLinkDown _ _ _
  | portReset p x report running mode =>
    exact (h.portEmptied p x report).of_same (by simp [State.resetPort_eq])
  | resetReleased standing => exact s.tableSound_resetBlocks _
  | managed t r running performed => exact (performed.tableSound h).of_same ⟨rfl, rfl⟩
  | _ => exact h.of_same (by simp [State.takeLinkUp, State.withResetInput])

/-- Settles O28, over the cases of what a step can do. -/
theorem tableSoundKept : Obligations.TableSoundKept := by
  intro s t h stepped
  rcases step_effect stepped with e | ⟨c, cs, -, e⟩
  · exact e.tableSound h
  · exact e.tableSound (s := s.withPending cs) h

end Sys2Proof.Machine
end

section
/-! SUPPORT and PROOFS. WRITE: what each kind of record reads back after one of its fields was
stored, that no other field changes, and the checks in order. -/

namespace Sys2Proof

/-- The bits of a joined block: the low part below the high part (R161). -/
theorem Block.getLsbD_join (high : BitVec 2) (low : BitVec 32) (k : Nat) :
    (Block.join high low).getLsbD k = if k < 32 then low.getLsbD k else high.getLsbD (k - 32) :=
  BitVec.getLsbD_append

@[simp] theorem Block.high_join (high : BitVec 2) (low : BitVec 32) :
    (Block.join high low).high = high := by
  ext i hi
  simp [Block.high, Block.getLsbD_join, BitVec.getLsbD_eq_getElem hi]

@[simp] theorem Block.low_join (high : BitVec 2) (low : BitVec 32) :
    (Block.join high low).low = low := by
  ext i hi
  simp [Block.low, Block.getLsbD_join, hi]

end Sys2Proof

namespace Sys2Proof.Machine

/-! ### The field stored reads back -/

/-- A flag stored from 0 or 1 reads back (section 11.6). -/
theorem flagCode_stored {v : Nat} (h : v ≤ 1) : flagCode (decide (v = 1)) = v := by
  interval_cases v <;> rfl

theorem Schedule.field_withField_same (sch : Schedule) {v : Nat} {f : ScheduleField}
    (inRange : f.accepts v = true) : (sch.withField v f).field f = v := by
  cases f with
  | period | prescaler | count =>
    simp only [ScheduleField.accepts, decide_eq_true_eq] at inRange
    simp only [withField, field, BitVec.toNat_ofNat]
    omega

theorem Window.field_withField_same (w : Window) {v : Nat} {f : WindowField}
    (inRange : f.accepts v = true) : (w.withField v f).field f = v := by
  cases f with
  | owner =>
    simp only [WindowField.accepts, decide_eq_true_eq] at inRange
    simp only [withField, field, ownerOf]
    omega
  | lend => exact flagCode_stored (by simpa [WindowField.accepts] using inRange)
  | start | length | guard | budget =>
    simp only [WindowField.accepts, Bool.and_eq_true, decide_eq_true_eq] at inRange
    simp only [withField, field, BitVec.toNat_ofNat]
    omega

theorem RuleKinds.code_ofCode {v : Nat} (h : v ≤ 2) : (RuleKinds.ofCode v).code = v := by
  interval_cases v <;> rfl

theorem RuleAction.code_ofCode {v : Nat} (h : v ≤ 3) : (RuleAction.ofCode v).code = v := by
  interval_cases v <;> rfl

/-- The low part of a block takes every value of a frame (Table 61). -/
theorem Rule.field_withField_same (r : Rule) {v : Nat} {f : RuleField} (word : v < 2 ^ 32)
    (inRange : f.accepts v = true) : (r.withField v f).field f = v := by
  cases f with
  | enabled => exact flagCode_stored (by simpa [RuleField.accepts] using inRange)
  | kinds => exact RuleKinds.code_ofCode (by simpa [RuleField.accepts] using inRange)
  | action => exact RuleAction.code_ofCode (by simpa [RuleField.accepts] using inRange)
  | firstLow | lastLow => simpa [withField, field] using word
  | firstHigh | lastHigh | portMask =>
    simp only [RuleField.accepts, decide_eq_true_eq] at inRange
    simp only [withField, field, Block.high_join, BitVec.toNat_ofNat]
    omega

/-- A number that is a start level stands for that level (Table 58). -/
theorem StartLevel.depth_of_ofNumber {v : Nat} {level : StartLevel}
    (h : StartLevel.ofNumber v = some level) : level.depth = v := by
  unfold ofNumber at h
  (repeat' split at h) <;> cases h <;> subst_vars <;> rfl

theorem State.portField_withField_same (s : State) (p : PortId) {v : Nat} {f : PortField}
    (inRange : f.accepts v = true) : (s.withField v (.port p f)).portField p f = v := by
  cases f with
  | startLevel =>
    obtain ⟨level, coded⟩ := Option.isSome_iff_exists.1 inRange
    simp [withField, portField, Settings.withField, coded, StartLevel.depth_of_ofNumber coded]
  | inFlightLimit => simp [withField, portField, Settings.withField]
  | postedWrites =>
    simp only [withField, portField, Settings.withField, withPort_port_same]
    exact flagCode_stored (by simpa [PortField.accepts] using inRange)
  | weight | ageLimit =>
    simp only [PortField.accepts, decide_eq_true_eq] at inRange
    simp only [withField, portField, Settings.withField, withPort_port_same, BitVec.toNat_ofNat]
    omega
  | _ => cases inRange

theorem State.globalField_withField_same (s : State) {v : Nat} {f : GlobalField}
    (inRange : f.accepts v = true) : (s.withField v (.global f)).globalField f = v := by
  cases f with
  | threshold | deadline =>
    simp only [GlobalField.accepts, decide_eq_true_eq] at inRange
    simp only [withField, withGlobalField, globalField, BitVec.toNat_ofNat]
    omega
  | defaultAction =>
    simp only [GlobalField.accepts, decide_eq_true_eq] at inRange
    interval_cases v <;> rfl
  | enable k =>
    simp only [withField, withGlobalField, globalField, look_put_same]
    exact flagCode_stored (by simpa [GlobalField.accepts] using inRange)
  | linkState | orphanedCount => cases inRange

/-- A field stored holds the value (R161). -/
theorem State.fieldNumber_withField_same (s : State) {v : Nat} {f : Field} (word : v < 2 ^ 32)
    (inRange : f.accepts v = true) : (s.withField v f).fieldNumber f = v := by
  cases f with
  | global f => exact s.globalField_withField_same inRange
  | port p f => exact s.portField_withField_same p inRange
  | stagedSchedule f => exact s.staged.field_withField_same inRange
  | stagedWindow w f =>
    simpa [withField, fieldNumber, Schedule.window]
      using Window.field_withField_same (look s.staged.windows w) inRange
  | rule k f =>
    simpa [withField, fieldNumber] using Rule.field_withField_same (look s.rules k) word inRange
  | _ => cases inRange

/-! ### Every other field stands -/

theorem Schedule.field_withField_of_ne (sch : Schedule) (v : Nat) {f g : ScheduleField}
    (other : g ≠ f) : (sch.withField v f).field g = sch.field g := by
  cases f <;> cases g <;> simp_all [withField, field]

theorem Window.field_withField_of_ne (w : Window) (v : Nat) {f g : WindowField}
    (other : g ≠ f) : (w.withField v f).field g = w.field g := by
  cases f <;> cases g <;> simp_all [withField, field]

/-- The two parts of a block are stored apart (R161). -/
theorem Rule.field_withField_of_ne (r : Rule) (v : Nat) {f g : RuleField} (other : g ≠ f) :
    (r.withField v f).field g = r.field g := by
  cases f <;> cases g <;> simp_all [withField, field]

theorem State.portField_withField_of_ne (s : State) (p : PortId) (v : Nat) {f g : PortField}
    (other : g ≠ f) : (s.withField v (.port p f)).portField p g = s.portField p g := by
  simp only [withField]
  cases g <;> simp only [portField, withPort_port_same, inFlightCount_withPort, Port.headSequence]
  all_goals cases f <;> simp_all [Settings.withField]

theorem State.portField_withField_of_port (s : State) {p o : PortId} (v : Nat) (f g : PortField)
    (other : o ≠ p) : (s.withField v (.port p f)).portField o g = s.portField o g := by
  have port : (s.withField v (.port p f)).port o = s.port o := s.withPort_port_of_ne _ other
  cases g with
  | inFlightCount => rfl
  | _ => simp only [portField, port]

theorem State.globalField_withField_of_ne (s : State) (v : Nat) {f g : GlobalField}
    (other : g ≠ f) : (s.withField v (.global f)).globalField g = s.globalField g := by
  cases f with
  | enable k =>
    cases g with
    | enable j =>
      have place : j ≠ k := fun same => other (congrArg _ same)
      simp only [withField, withGlobalField, globalField, look_put_of_ne _ _ place]
    | _ => rfl
  | _ => cases g <;> simp_all [withField, withGlobalField, globalField, orphanedCount]

/-- A writable field that is not stored holds what it held (R161). -/
theorem State.fieldNumber_withField_of_ne (s : State) (v : Nat) {f g : Field}
    (writable : g.writable = true) (other : g ≠ f) :
    (s.withField v f).fieldNumber g = s.fieldNumber g := by
  cases g with
  | global g =>
    cases f with
    | global f => exact s.globalField_withField_of_ne v fun same => other (congrArg _ same)
    | _ => rfl
  | port o g =>
    cases f with
    | global f => cases f <;> rfl
    | port p f =>
      by_cases same : o = p
      · subst same
        exact s.portField_withField_of_ne o v fun same => other (congrArg _ same)
      · exact s.portField_withField_of_port v f g same
    | _ => rfl
  | stagedSchedule g =>
    cases f with
    | global f => cases f <;> rfl
    | stagedSchedule f =>
      exact s.staged.field_withField_of_ne v fun same => other (congrArg _ same)
    | stagedWindow w f => cases g <;> rfl
    | _ => rfl
  | stagedWindow u g =>
    cases f with
    | global f | stagedSchedule f => cases f <;> rfl
    | stagedWindow w f =>
      simp only [withField, fieldNumber, Schedule.window, look_put]
      split
      · subst_vars
        exact Window.field_withField_of_ne _ v fun same => other (congrArg _ same)
      · rfl
    | _ => rfl
  | rule j g =>
    cases f with
    | global f => cases f <;> rfl
    | rule k f =>
      simp only [withField, fieldNumber, look_put]
      split
      · subst_vars
        exact Rule.field_withField_of_ne _ v fun same => other (congrArg _ same)
      · rfl
    | _ => rfl
  | _ => cases writable

/-- A WRITE stores into the staged copy, the ports, the rules and the settings of GLOBAL only. -/
theorem State.withField_frame (s : State) (v : Nat) (f : Field) :
    s.withField v f
      = { s with
          staged := (s.withField v f).staged, ports := (s.withField v f).ports
          threshold := (s.withField v f).threshold, rules := (s.withField v f).rules
          defaultAction := (s.withField v f).defaultAction
          deadline := (s.withField v f).deadline, enables := (s.withField v f).enables } := by
  cases f with
  | global f => cases f <;> rfl
  | _ => rfl

/-- A WRITE changes nothing of a port but its settings. -/
theorem State.withField_port (s : State) (v : Nat) (f : Field) (p : PortId) :
    (s.withField v f).port p
      = { s.port p with settings := ((s.withField v f).port p).settings } := by
  cases f with
  | global f => cases f <;> rfl
  | port o f =>
    simp only [withField, withPort_port]
    split
    · subst_vars
      rfl
    · rfl
  | _ => rfl

/-! ### The checks of a WRITE -/

/-- WRITE of a field that exists, by checks 3 to 5 of R160. -/
theorem exec_write_eq {s : State} {object index field : Byte} {value : Word32} {o : ObjectRef}
    {f : Field} (running : s.deviceReset = false) (named : objectOf object index = some o)
    (has : fieldIn o field = some f) :
    exec (.write object index field value) s
      = .next ((s.writeTo value f).1.answers (s.writeTo value f).2.code
          (s.writeTo value f).2.value) := by
  have performed : s.perform (.write object index field value) = s.writeTo value f := by
    simp only [State.perform, State.mgmtWrite, onField, named, has]
  have taken := State.take_eq running (.write object index field value)
  rw [performed] at taken
  exact congrArg _ taken

/-- Settles O54: the checks in order, then the store of the field, which reads back and leaves every
other field. -/
theorem writeStoresOneField : Obligations.WriteStoresOneField := by
  intro s object index field value o f running named has
  rw [exec_write_eq running named has]
  refine ⟨fun readOnly => ?_, fun writable staged pending => ?_,
    fun writable unlocked refused => ?_, fun writable unlocked inRange => ?_⟩
  · simp [State.writeTo, readOnly]
  · simp [State.writeTo, writable, staged, pending]
  · simp [State.writeTo, writable, Bool.and_eq_false_iff.2 unlocked, refused]
  · have holds : (s.withField value.toNat f).fieldValue f = value := by
      simp [State.fieldValue, s.fieldNumber_withField_same value.isLt inRange]
    refine ⟨s.withField value.toNat f, ?_, holds, fun g written other => ?_, s.withField_frame _ f,
      s.withField_port _ f⟩
    · simp only [State.writeTo, writable, Bool.and_eq_false_iff.2 unlocked, inRange, holds]
      rfl
    · exact congrArg _ (s.fieldNumber_withField_of_ne _ written other)

end Sys2Proof.Machine
end

section
/-! SUPPORT and PROOFS. What every step keeps of the ports and the link: a port that stands still is
empty, the slots are FREE while the link is down, and link ready is high while it is up. -/

namespace Sys2Proof.Machine

/-! ### Ports that stand still -/

/-- A port that is HALTED or IN_RESET is empty (R131, R139). -/
def Port.StillEmpty (r : Port) : Prop := r.mode.isStill = true → r.queue = [] ∧ r.replies = []

/-- The second port stands still only where the first did, and what was empty stays empty. -/
structure Port.AddsNothing (r r' : Port) : Prop where
  still : r'.mode.isStill = true → r.mode.isStill = true
  queue : r.queue = [] → r'.queue = []
  replies : r.replies = [] → r'.replies = []

theorem Port.StillEmpty.of_adds {r r' : Port} (h : r.StillEmpty) (adds : r.AddsNothing r') :
    r'.StillEmpty := fun still =>
  (h (adds.still still)).imp adds.queue adds.replies

theorem Port.stillEmpty_of_moving {r : Port} (h : r.mode.isStill = false) : r.StillEmpty :=
  fun still => absurd still (by simp [h])

theorem Port.stillEmpty_of_empty {r : Port} (queue : r.queue = []) (replies : r.replies = []) :
    r.StillEmpty := fun _ => ⟨queue, replies⟩

/-- A change of a port's level, settings or counters adds nothing. -/
theorem Port.AddsNothing.of_same {r r' : Port} (mode : r'.mode = r.mode)
    (queue : r'.queue = r.queue) (replies : r'.replies = r.replies) : r.AddsNothing r' :=
  ⟨fun still => mode ▸ still, fun empty => queue.trans empty, fun empty => replies.trans empty⟩

/-- The settling of entries adds none. -/
theorem Port.AddsNothing.of_replies {r : Port} {l : List ReplyEntry}
    (length : l.length ≤ r.replies.length) : r.AddsNothing { r with replies := l } := by
  refine ⟨id, id, fun empty => List.length_eq_zero_iff.1 ?_⟩
  simpa [empty] using length

theorem State.StillPortsEmpty.of_same {s t : State} (h : s.StillPortsEmpty)
    (ports : t.ports = s.ports) : t.StillPortsEmpty := by
  intro p
  simpa only [port, ports] using h p

theorem State.StillPortsEmpty.record {s : State} (h : s.StillPortsEmpty) (o : Occasion) :
    (s.record o).StillPortsEmpty := h.of_same (by simp)

theorem State.StillPortsEmpty.recordAll {s : State} (h : s.StillPortsEmpty) (os : List Occasion) :
    (s.recordAll os).StillPortsEmpty := h.of_same (by simp)

theorem State.StillPortsEmpty.takeDecision {s : State} (h : s.StillPortsEmpty) :
    s.takeDecision.StillPortsEmpty := h.of_same (by simp)

/-- A change of one port that leaves it empty where it stands still. -/
theorem State.StillPortsEmpty.withPort {s : State} {p : PortId} {f : Port → Port}
    (h : s.StillPortsEmpty) (empty : (f (s.port p)).StillEmpty) :
    (s.withPort p f).StillPortsEmpty := by
  intro q
  rw [withPort_port]
  split
  · exact empty
  · exact h q

/-- A change of one port that adds nothing to it. -/
theorem State.StillPortsEmpty.withPort_adds {s : State} {p : PortId} {f : Port → Port}
    (h : s.StillPortsEmpty) (adds : (s.port p).AddsNothing (f (s.port p))) :
    (s.withPort p f).StillPortsEmpty :=
  h.withPort (Port.StillEmpty.of_adds (h p) adds)

/-- A drain check halts only an empty port (R135). -/
theorem State.StillPortsEmpty.drainCheck {s : State} (h : s.StillPortsEmpty) (p : PortId) :
    (s.drainCheck p).StillPortsEmpty := by
  rcases s.drainCheck_cases p with same | ⟨-, queue, replies, halted⟩
  · rwa [same]
  · rw [halted]
    exact (h.withPort (Port.stillEmpty_of_empty (r := { s.port p with mode := .halted }) queue
      replies)).record _

theorem State.StillPortsEmpty.settleSlot {s : State} (h : s.StillPortsEmpty) (i : SlotId)
    (c : Command) (status : ReplyStatus) (data : List BeatData) :
    (s.settleSlot i c status data).StillPortsEmpty := by
  unfold State.settleSlot
  split
  · exact h
  · exact h.withPort_adds (.of_replies (by simp))

/-- A port that takes a request is ACTIVE (R26). -/
theorem State.StillPortsEmpty.arrive {s : State} (h : s.StillPortsEmpty) {p : PortId} {r : Request}
    (takes : s.takes p r = true) : (s.arrive p r).StillPortsEmpty := by
  obtain ⟨-, active, -⟩ := State.takes_iff.1 takes
  have changed : ∀ f : Port → Port, (f (s.port p)).mode = (s.port p).mode →
      (s.withPort p f).StillPortsEmpty := fun f mode =>
    h.withPort (Port.stillEmpty_of_moving (by simp [mode, active, PortMode.isStill]))
  unfold State.arrive
  dsimp only
  split
  · exact (changed (fun port => port.appendReply r _) rfl).record _
  · exact (changed (fun port => (port.appendReply r (.ready .refused [])).countRefusal)
      rfl).of_same (by simp)
  · exact (changed (fun port => port.accept r s.tickCount) rfl).of_same (by simp)

/-- A port with a request in its queue does not stand still (R131). -/
theorem State.StillPortsEmpty.grant {s : State} (h : s.StillPortsEmpty) (p : PortId)
    (course : Course) : (s.grant p course).StillPortsEmpty := by
  unfold State.grant
  split
  · rename_i i q rest free queue
    refine State.StillPortsEmpty.drainCheck ?_ p
    have granted : (s.withPort p (Port.granted q rest i course)).StillPortsEmpty := by
      refine h.withPort fun still => ?_
      obtain ⟨empty, -⟩ := h p still
      exact absurd (queue.symm.trans empty) (by simp)
    exact granted.of_same (by simp)
  · exact h
  · exact h

/-! ### Completions and expiries -/

theorem State.StillPortsEmpty.mismatch {s : State} (h : s.StillPortsEmpty) (i : SlotId)
    (c : Command) : (s.mismatch i c).StillPortsEmpty := by
  have freed : ((s.withSlot i .free).withChannel .awaitHeader).StillPortsEmpty := h
  exact (freed.settleSlot i c .dataError []).record _

theorem State.StillPortsEmpty.endCompletion {s : State} (h : s.StillPortsEmpty) (i : SlotId) :
    (s.endCompletion i).StillPortsEmpty := by
  unfold State.endCompletion
  split
  · exact h.mismatch i _
  · exact State.StillPortsEmpty.record (s := (s.withSlot i .free).withChannel .awaitHeader) h _
  · exact h
  · exact h
  · exact h

theorem State.StillPortsEmpty.interrupt {s : State} (h : s.StillPortsEmpty) :
    s.interrupt.StillPortsEmpty := by
  unfold State.interrupt
  split
  · exact h
  · exact h.endCompletion _
  · exact h.endCompletion _
  · exact h

theorem State.StillPortsEmpty.issuedHeader {s : State} (h : s.StillPortsEmpty) (i : SlotId)
    (c : Command) (d : Deadline) (status : MemStatus) :
    (s.issuedHeader i c d status).StillPortsEmpty := by
  have freed : (s.withSlot i .free).StillPortsEmpty := h
  unfold State.issuedHeader
  split
  · exact (freed.settleSlot i c .dataError []).recordAll _
  · split
    · exact freed.settleSlot i c .ok []
    · exact h

/-- A header changes the ports only where it completes a command in ISSUED (R72, R73). -/
theorem State.StillPortsEmpty.classifyHeader {s : State} (h : s.StillPortsEmpty) (i : SlotId)
    (kind : Kind) (status : MemStatus) : (s.classifyHeader i kind status).StillPortsEmpty := by
  have stray : (s.strayHeader i kind status).StillPortsEmpty :=
    h.of_same (by simp [State.strayHeader])
  unfold State.classifyHeader
  split
  · exact stray
  · exact stray
  · exact stray
  · split
    · unfold State.lateHeader
      split
      · exact h
      · exact State.StillPortsEmpty.record (s := (s.withSlot i .free).withChannel .awaitHeader) h _
    · exact stray
  · split
    · exact h.issuedHeader i _ _ status
    · exact stray

theorem State.StillPortsEmpty.dataBeat {s : State} (h : s.StillPortsEmpty) (i : SlotId)
    (c : Command) (d : Deadline) (beats : List BeatData) (data : BeatData) (last : Bool) :
    (s.dataBeat i c d beats data last).StillPortsEmpty := by
  have freed : ((s.withSlot i .free).withChannel .awaitHeader).StillPortsEmpty := h
  unfold State.dataBeat
  repeat' split
  · exact (freed.settleSlot i c .ok (beats ++ [data])).takeDecision
  · exact (h.mismatch i c).takeDecision
  · exact h
  · exact (h.mismatch i c).takeDecision
  · exact h

theorem State.StillPortsEmpty.expireSlot {s : State} (h : s.StillPortsEmpty) (i : SlotId) :
    (s.expireSlot i).StillPortsEmpty := by
  have orphaned : (s.orphan i).StillPortsEmpty := h.of_same (by simp)
  have expired : ∀ c x, (s.expire i c x).StillPortsEmpty := fun c x =>
    (((orphaned.settleSlot i c .timeout []).withPort_adds (f := Port.countTimeout)
      (.of_same rfl rfl rfl)).recordAll _).takeDecision
  rcases s.expireSlot_cases i with same | ⟨c, d, -, becomes⟩ | ⟨c, d, beats, -, becomes⟩
  · rwa [same]
  · exact becomes ▸ expired c _
  · exact becomes ▸ expired c _

/-! ### Deliveries, the link, port control and resets -/

theorem State.StillPortsEmpty.takeItem {s : State} (h : s.StillPortsEmpty) (p : PortId) :
    (s.withPort p Port.takeItem).StillPortsEmpty := by
  refine h.withPort_adds ⟨fun still => by simpa using still, fun empty => by simpa using empty,
    fun empty => ?_⟩
  simp [Port.takeItem, empty]

theorem State.StillPortsEmpty.endDelivery {s : State} (h : s.StillPortsEmpty) (p : PortId) :
    (s.endDelivery p).StillPortsEmpty := by
  have ended : (s.withPort p fun r =>
      { r with replies := beginDelivery r.replies.tail }).StillPortsEmpty :=
    h.withPort_adds (.of_replies (by simp))
  exact (ended.drainCheck p).takeDecision

/-- A link down settles entries where they stand (R104). -/
theorem State.StillPortsEmpty.takeLinkDown {s : State} (h : s.StillPortsEmpty) (cause : DownCause)
    (link : LinkState) : (s.takeLinkDown cause link).StillPortsEmpty := by
  have freed : (s.linkFreed link).StillPortsEmpty := by
    intro p
    simp only [State.port, State.linkFreed, look_tabulate]
    exact Port.StillEmpty.of_adds (h p) (.of_replies (by simp))
  exact (freed.record _).recordAll _

theorem State.StillPortsEmpty.resetPort {s : State} (h : s.StillPortsEmpty) (p : PortId)
    (x : ReturnState) (report : Bool) : (s.resetPort p x report).StillPortsEmpty := by
  have emptied : (s.withPort p (Port.reset x report)).StillPortsEmpty :=
    h.withPort (Port.stillEmpty_of_empty rfl rfl)
  exact emptied.of_same (by simp [State.resetPort])

/-- The release of a port reset finds the port empty, whatever state it returns to (R139, R140). -/
theorem State.StillPortsEmpty.releasePort {s : State} (h : s.StillPortsEmpty) {p : PortId}
    {x : ReturnState} {report : Bool} (mode : (s.port p).mode = .inReset x report) :
    (s.releasePort p x report).StillPortsEmpty := by
  obtain ⟨queue, replies⟩ := h p (by simp [mode, PortMode.isStill])
  have released : (s.withPort p fun r =>
      { r with mode := x.mode, resetInput := false, nextSequence := 0 }).StillPortsEmpty :=
    h.withPort (Port.stillEmpty_of_empty queue replies)
  unfold State.releasePort
  dsimp only
  split
  · exact released.record _
  · exact released

/-- Device reset and soft reset empty every port (R141). -/
theorem State.stillPortsEmpty_resetBlocks (s : State) (frame : MgmtFrame) :
    (s.resetBlocks frame).StillPortsEmpty := by
  intro p _
  simp [State.resetBlocks, State.port, Port.afterReset]

theorem State.StillPortsEmpty.withField {s : State} (h : s.StillPortsEmpty) (v : Nat) (f : Field) :
    (s.withField v f).StillPortsEmpty := by
  cases f with
  | port p f => exact h.withPort_adds (.of_same rfl rfl rfl)
  | global f => cases f <;> exact h
  | _ => exact h

theorem State.StillPortsEmpty.clearField {s : State} (h : s.StillPortsEmpty) (f : Field) :
    (s.clearField f).StillPortsEmpty := by
  cases f with
  | counter p f => exact h.withPort_adds (.of_same rfl rfl rfl)
  | status f => cases f <;> exact h
  | _ => exact h

/-- A management command leaves the ports that stand still empty. -/
theorem Performed.stillPortsEmpty {s t : State} (e : Performed s t) (h : s.StillPortsEmpty) :
    t.StillPortsEmpty := by
  cases e with
  | stored f v writable unlocked inRange =>
    unfold State.storeField
    split
    · exact (h.withField _ f).takeDecision
    · exact h.withField _ f
  | cleared f clearable => exact h.clearField f
  | enabled p mode => exact h.withPort (Port.stillEmpty_of_moving rfl)
  | drained p mode =>
    have draining : (s.withMode p .draining).StillPortsEmpty :=
      h.withPort (Port.stillEmpty_of_moving rfl)
    exact draining.drainCheck p
  | flushed p mode =>
    have flushed : (s.withPort p Port.flushed).StillPortsEmpty :=
      h.withPort (Port.stillEmpty_of_moving rfl)
    exact (flushed.recordAll _).drainCheck p
  | countersCleared p => exact h.withPort_adds (.of_same rfl rfl rfl)
  | restarted up => exact h.takeLinkDown _ _
  | reset => exact s.stillPortsEmpty_resetBlocks _
  | _ => exact h

/-- Everything a command can do leaves the ports that stand still empty. -/
theorem Effect.stillPortsEmpty {s t : State} (e : Effect s t) (h : s.StillPortsEmpty) :
    t.StillPortsEmpty := by
  cases e with
  | tickEnded running =>
    have advanced : s.advanceTick.StillPortsEmpty :=
      h.of_same (by simp [State.advanceTick_eq])
    exact State.expireAll_keeps (P := State.StillPortsEmpty) (fun t i empty => empty.expireSlot i)
      _ _ advanced
  | arrived p r takes => exact h.arrive takes
  | granted p course may named => exact h.takeDecision.grant p course
  | headerTaken i kind status running up =>
    exact (h.interrupt.classifyHeader i kind status).of_same (by simp)
  | dataBeat i c d beats data last running up channel slot => exact h.dataBeat i c d beats data last
  | discardEnded i running up channel => exact (h.endCompletion i).takeDecision
  | expired i running ends =>
    have reached : s.reachTickEnd.StillPortsEmpty := h.of_same (by simp)
    exact reached.expireSlot i
  | linkDown running up =>
    exact State.StillPortsEmpty.takeLinkDown (s := { s with linkReady := false }) h _ _
  | replyItemTaken p running more => exact h.takeItem p
  | deliveryEnded p running last => exact h.endDelivery p
  | resetLevel p level idle => exact h.withPort_adds (.of_same rfl rfl rfl)
  | portReset p x report running mode => exact h.resetPort p x report
  | portReleased p x report running mode => exact h.releasePort mode
  | resetReleased standing => exact s.stillPortsEmpty_resetBlocks _
  | managed t r running performed => exact performed.stillPortsEmpty h
  | _ => exact h.of_same (by simp [State.strayBeat, State.takeLinkUp])

/-! ### The link -/

/-- The slots that are FREE in the first state are FREE in the second. -/
def State.KeepsFree (s t : State) : Prop := ∀ i, s.slot i = .free → t.slot i = .free

theorem State.KeepsFree.of_same {s t : State} (slots : t.slots = s.slots) : s.KeepsFree t := by
  intro i free
  simpa only [slot, slots] using free

theorem State.KeepsFree.trans {s t u : State} (h : s.KeepsFree t) (h' : t.KeepsFree u) :
    s.KeepsFree u := fun i free => h' i (h i free)

/-- A change of a slot that holds a command keeps the FREE slots. -/
theorem State.KeepsFree.withSlot {s : State} {i : SlotId} {x : Slot} (taken : s.slot i ≠ .free) :
    s.KeepsFree (s.withSlot i x) := by
  intro j free
  have other : j ≠ i := by
    rintro rfl
    exact taken free
  rwa [s.withSlot_slot_of_ne x other]

/-- Only a slot in ISSUED or RECEIVING is orphaned (R79). -/
theorem State.KeepsFree.orphan (s : State) (i : SlotId) : s.KeepsFree (s.orphan i) := by
  cases slot : s.slot i with
  | issued c d =>
    rw [orphan_of_issued slot]
    exact withSlot (by simp [slot])
  | receiving c d beats =>
    rw [orphan_of_receiving slot]
    exact withSlot (by simp [slot])
  | free | sending c share taken mark | orphaned c =>
    exact of_same (by simp [State.orphan, slot])

theorem State.KeepsFree.expireSlot (s : State) (i : SlotId) : s.KeepsFree (s.expireSlot i) := by
  have expired : ∀ c x, s.KeepsFree (s.expire i c x) := fun c x =>
    (KeepsFree.orphan s i).trans (.of_same (by simp [State.expire]))
  rcases s.expireSlot_cases i with same | ⟨c, d, -, becomes⟩ | ⟨c, d, beats, -, becomes⟩
  · exact .of_same (by rw [same])
  · exact becomes ▸ expired c _
  · exact becomes ▸ expired c _

theorem State.KeepsFree.counted (s : State) : s.KeepsFree s.counted := by
  intro i free
  rw [counted_slot, free]
  rfl

theorem State.KeepsFree.portEmptied (s : State) (p : PortId) (x : ReturnState) (report : Bool) :
    s.KeepsFree (s.portEmptied p x report) := by
  intro i free
  rw [portEmptied_slot, free]
  rfl

/-- The link, its ready input and the device reset are as they were, and FREE slots stay FREE. -/
theorem State.LinkSound.of_keepsFree {s t : State} (h : s.LinkSound)
    (same : t.deviceReset = s.deviceReset ∧ t.link = s.link ∧ t.linkReady = s.linkReady)
    (keeps : s.KeepsFree t) : t.LinkSound := by
  obtain ⟨device, link, ready⟩ := same
  obtain ⟨held, free, high⟩ := h
  rw [State.LinkSound, device, link, ready]
  exact ⟨held, fun running down i => keeps i (free running down i), high⟩

theorem State.LinkSound.of_same {s t : State} (h : s.LinkSound)
    (same : t.deviceReset = s.deviceReset ∧ t.link = s.link ∧ t.linkReady = s.linkReady
      ∧ t.slots = s.slots) : t.LinkSound := by
  obtain ⟨device, link, ready, slots⟩ := same
  exact h.of_keepsFree ⟨device, link, ready⟩ (.of_same slots)

/-- While the link stays UP the slots are free to change. -/
theorem State.LinkSound.of_up {s t : State} (h : s.LinkSound) (up : s.link = .up)
    (same : t.deviceReset = s.deviceReset ∧ t.link = s.link ∧ t.linkReady = s.linkReady) :
    t.LinkSound := by
  obtain ⟨device, link, ready⟩ := same
  obtain ⟨held, -, high⟩ := h
  rw [State.LinkSound, device, link, ready]
  exact ⟨held, fun _ down => absurd up down, high⟩

/-- A link that is not UP, with every slot FREE. -/
theorem State.linkSound_of_free {t : State} (running : t.deviceReset = false) (down : t.link ≠ .up)
    (free : ∀ i, t.slot i = .free) : t.LinkSound :=
  ⟨fun held => absurd held (by simp [running]), fun _ _ => free, fun up => absurd up down⟩

theorem State.LinkSound.expireSlot {s : State} (h : s.LinkSound) (i : SlotId) :
    (s.expireSlot i).LinkSound := h.of_keepsFree (by simp) (.expireSlot s i)

/-- A link down frees every slot (R85, R123). -/
theorem State.linkSound_takeLinkDown {s : State} (running : s.deviceReset = false)
    (cause : DownCause) {link : LinkState} (down : link ≠ .up) :
    (s.takeLinkDown cause link).LinkSound := by
  refine linkSound_of_free (by simpa using running) (by simpa [State.takeLinkDown] using down) ?_
  simp [State.takeLinkDown, State.slot]

/-- Device reset and soft reset free every slot, with the link RESTARTING (R87, R121). -/
theorem State.linkSound_resetBlocks (s : State) (frame : MgmtFrame) :
    (s.resetBlocks frame).LinkSound := by
  refine linkSound_of_free ?_ ?_ ?_ <;> simp [State.resetBlocks, State.reset, State.slot]

/-- A management command keeps the link sound. -/
theorem Performed.linkSound {s t : State} (e : Performed s t) (running : s.deviceReset = false)
    (h : s.LinkSound) : t.LinkSound := by
  cases e with
  | stored f v writable unlocked inRange =>
    unfold State.storeField
    split <;> exact h.of_same (by simp)
  | restarted up => exact State.linkSound_takeLinkDown running _ (by simp)
  | restarting down =>
    obtain ⟨-, free, -⟩ := h
    exact State.linkSound_of_free running (by simp) (free running (by simp [down]))
  | reset => exact s.linkSound_resetBlocks _
  | _ => exact h.of_same (by simp [State.withMode])

/-- Everything a command can do keeps the link sound. -/
theorem Effect.linkSound {s t : State} (e : Effect s t) (h : s.LinkSound) : t.LinkSound := by
  cases e with
  | tickEnded running =>
    have advanced : s.advanceTick.LinkSound :=
      h.of_keepsFree (by simp [State.advanceTick_eq, State.counted])
        ((State.KeepsFree.counted s).trans (.of_same (by simp [State.advanceTick_eq])))
    exact State.expireAll_keeps (P := State.LinkSound) (fun t i sound => sound.expireSlot i) _ _
      advanced
  | granted p course may named =>
    obtain ⟨up, -, -⟩ := s.mayDecide_iff.1 may
    exact h.of_up up (by simp)
  | itemTaken i c share taken mark running slot more =>
    exact h.of_keepsFree (by simp) (.withSlot (by simp [slot]))
  | transferEnded i c share taken mark running slot last =>
    have left : s.KeepsFree (s.withSlot i (s.transferred c mark)) := .withSlot (by simp [slot])
    exact h.of_keepsFree (by simp) (left.trans (.of_same (by simp)))
  | headerTaken i kind status running up => exact h.of_up up (by simp)
  | strayBeat last running up channel => exact h.of_same (by simp [State.strayBeat])
  | dataBeat i c d beats data last running up channel slot => exact h.of_up up (by simp)
  | discardEnded i running up channel => exact h.of_up up (by simp)
  | expired i running ends =>
    have reached : s.reachTickEnd.LinkSound := h.of_same (by simp)
    exact reached.expireSlot i
  | readyLow idle =>
    obtain ⟨held, free, -⟩ := h
    refine ⟨held, free, fun up => ?_⟩
    rcases idle with asserted | down
    · exact absurd up (by simp [held asserted])
    · exact absurd up down
  | linkDown running up =>
    exact State.linkSound_takeLinkDown (s := { s with linkReady := false }) running _ (by simp)
  | readyHigh low idle =>
    obtain ⟨held, free, -⟩ := h
    exact ⟨held, free, fun _ => rfl⟩
  | linkUp low running down =>
    refine ⟨fun held => absurd held ?_, fun _ down => absurd ?_ down, fun _ => ?_⟩
    · simp [State.takeLinkUp, running]
    · simp [State.takeLinkUp]
    · simp [State.takeLinkUp]
  | portReset p x report running mode =>
    exact h.of_keepsFree (by simp)
      ((State.KeepsFree.portEmptied s p x report).trans (.of_same (by simp [State.resetPort_eq])))
  | resetAsserted running => exact ⟨fun _ => rfl, by simp, by simp⟩
  | resetReleased standing => exact s.linkSound_resetBlocks _
  | managed t r running performed => exact performed.linkSound running h
  | _ => exact h.of_same (by simp [State.withResetInput])

/-- Settles O41, over the cases of what a step can do. -/
theorem linkAndPortsSoundKept : Obligations.LinkAndPortsSoundKept := by
  intro s t link still stepped
  rcases step_effect stepped with e | ⟨c, cs, -, e⟩
  · exact ⟨e.linkSound link, e.stillPortsEmpty still⟩
  · exact ⟨e.linkSound (s := s.withPending cs) link,
      e.stillPortsEmpty (s := s.withPending cs) still⟩

end Sys2Proof.Machine
end

section
/-! SUPPORT and PROOFS. The completion channel: headers taken in AWAIT_HEADER, headers that end a
completion in progress, and read beats (R71 to R78). -/

namespace Sys2Proof.Machine

/-! ### The taking of a header -/

/-- While the link is UP, outside device reset, a header ends what is in progress and is classified
(R72). -/
theorem exec_header_eq {s : State} (running : s.deviceReset = false) (up : s.link = .up)
    (i : SlotId) (kind : Kind) (status : MemStatus) :
    exec (.completionHeader i kind status) s
      = .next ((s.interrupt.classifyHeader i kind status).decideAfter s) := by
  show execCompletionHeader i kind status s = _
  simp [execCompletionHeader, State.linkIsUp, running, up]

theorem State.interrupt_of_idle {s : State} (idle : s.completion = .awaitHeader) :
    s.interrupt = s := by
  simp [State.interrupt, idle]

/-- A header in DATA or DISCARD for a slot ends that slot's completion (R76, R77). -/
theorem State.interrupt_of_busy {s : State} {j : SlotId}
    (busy : s.completion = .data j ∨ s.completion = .discard (some j)) :
    s.interrupt = s.endCompletion j := by
  rcases busy with data | discard
  · simp [State.interrupt, data]
  · simp [State.interrupt, discard]

/-- No decision is taken where the slots are as they were (R43). -/
theorem State.decideAfter_of_same {s t : State} (same : t.slots = s.slots) :
    t.decideAfter s = t := if_pos same

/-- A decision is taken where a slot is not what it was (R43). -/
theorem State.decideAfter_of_moved {s t : State} {i : SlotId} (moved : t.slot i ≠ s.slot i) :
    t.decideAfter s = t.takeDecision :=
  if_neg fun same => moved (by simp only [slot, same])

/-- A channel put into the state it is in. -/
theorem State.withChannel_self {s : State} {channel : CompletionChannel}
    (h : s.completion = channel) : s.withChannel channel = s := by
  subst h
  rfl

/-! ### Headers for a slot in ISSUED -/

/-- A matching header moves a slot out of ISSUED (R73, R74, R75). -/
theorem State.issuedHeader_slot (s : State) (i : SlotId) (c : Command) (d : Deadline)
    (status : MemStatus) (c' : Command) (d' : Deadline) :
    (s.issuedHeader i c d status).slot i ≠ .issued c' d' := by
  unfold State.issuedHeader
  split
  · simp [State.faultCompletion]
  · split <;> simp

theorem exec_header_of_issued {s : State} {i : SlotId} {c : Command} {d : Deadline}
    (running : s.deviceReset = false) (up : s.link = .up) (idle : s.completion = .awaitHeader)
    (issued : s.slot i = .issued c d) (status : MemStatus) :
    exec (.completionHeader i c.kind status) s
      = .next (s.issuedHeader i c d status).takeDecision := by
  have classified : s.classifyHeader i c.kind status = s.issuedHeader i c d status := by
    simp [State.classifyHeader, issued]
  rw [exec_header_eq running up, State.interrupt_of_idle idle, classified,
    State.decideAfter_of_moved (issued ▸ s.issuedHeader_slot i c d status c d)]

theorem State.issuedHeader_fault (s : State) (i : SlotId) (c : Command) (d : Deadline) :
    s.issuedHeader i c d .fault
      = ((s.withSlot i .free).settleSlot i c .dataError []).recordAll (faultOccasions i c) := rfl

theorem State.issuedHeader_goodWrite (s : State) (i : SlotId) {c : Command} (d : Deadline)
    (write : c.kind = .write) :
    s.issuedHeader i c d .good = (s.withSlot i .free).settleSlot i c .ok [] := by
  simp [State.issuedHeader, write]

theorem State.issuedHeader_goodRead (s : State) (i : SlotId) {c : Command} (d : Deadline)
    (read : c.kind = .read) :
    s.issuedHeader i c d .good = (s.withSlot i (.receiving c d [])).withChannel (.data i) := by
  simp [State.issuedHeader, read]

/-- Settles O30: a posted write settles nothing, and another settles the entry found. -/
theorem writeCompletionSettlesOk : Obligations.WriteCompletionSettlesOk := by
  intro s i c d running up idle issued write
  have completed : exec (.completionHeader i .write .good) s
      = .next ((s.withSlot i .free).settleSlot i c .ok []).takeDecision := by
    rw [← write, exec_header_of_issued running up idle issued,
      State.issuedHeader_goodWrite s i d write]
  refine ⟨fun posted => ?_, fun before e after notPosted found => ?_⟩
  · rw [completed, State.settleSlot_of_posted i .ok [] posted]
    rfl
  · rw [completed, State.settleSlot_of_found .ok [] notPosted found] <;> rfl

/-- Settles O31: a posted write settles nothing and gives two records, and another command settles
the entry found and gives one. -/
theorem faultCompletionSettlesDataError : Obligations.FaultCompletionSettlesDataError := by
  intro s i c d running up idle issued
  have completed := exec_header_of_issued running up idle issued .fault
  rw [State.issuedHeader_fault] at completed
  refine ⟨fun posted => ?_, fun before e after notPosted found => ?_⟩
  · rw [completed, State.settleSlot_of_posted i .dataError [] posted, faultOccasions, if_pos posted]
    rfl
  · rw [completed, State.settleSlot_of_found .dataError [] notPosted found, faultOccasions,
      if_neg (by simp [notPosted])] <;> rfl

/-! ### Late and stray headers -/

/-- A header in AWAIT_HEADER for a slot that is FREE or in SENDING, or whose command is of the other
kind, is stray (Table 24). -/
theorem State.classifyHeader_of_stray {s : State} {i : SlotId} {kind : Kind} (status : MemStatus)
    (stray : (s.slot i).isFree = true ∨ (s.slot i).isSending = true
      ∨ ∃ c ∈ (s.slot i).command?, c.kind ≠ kind) :
    s.classifyHeader i kind status = s.strayHeader i kind status := by
  cases slot : s.slot i with
  | free | sending c share taken mark | receiving c d beats => simp [State.classifyHeader, slot]
  | issued c d | orphaned c =>
    have other : c.kind ≠ kind := by
      simpa [slot, Slot.isFree, Slot.isSending, Slot.command?] using stray
    simp [State.classifyHeader, slot, other]

theorem State.classifyHeader_of_orphaned {s : State} {i : SlotId} {c : Command}
    (orphaned : s.slot i = .orphaned c) (status : MemStatus) :
    s.classifyHeader i c.kind status = s.lateHeader i c c.kind status := by
  simp [State.classifyHeader, orphaned]

/-- Beats follow a header of a GOOD read and no other (Table 23). -/
theorem hasBeats_iff {kind : Kind} {status : MemStatus} :
    hasBeats kind status = true ↔ kind = .read ∧ status = .good := by
  simp [hasBeats]

theorem hasBeats_eq_false {kind : Kind} {status : MemStatus}
    (h : kind = .write ∨ status = .fault) : hasBeats kind status = false := by
  rcases h with rfl | rfl
  · rfl
  · cases kind <;> rfl

/-- Settles O32: a late header by the beats that follow it, and a stray one. -/
theorem lateAndStrayHeaders : Obligations.LateAndStrayHeaders := by
  intro s i kind status running up idle
  have taken : exec (.completionHeader i kind status) s
      = .next ((s.classifyHeader i kind status).decideAfter s) := by
    rw [exec_header_eq running up, State.interrupt_of_idle idle]
  refine ⟨fun c orphaned own read good => ?_, fun c orphaned own beatless => ?_, fun stray => ?_⟩
  · subst own
    have discards : s.lateHeader i c c.kind status = s.withChannel (.discard (some i)) :=
      if_pos (hasBeats_iff.2 ⟨read, good⟩)
    have same : (s.withChannel (.discard (some i))).slots = s.slots := rfl
    rw [taken, State.classifyHeader_of_orphaned orphaned, discards, State.decideAfter_of_same same]
    rfl
  · subst own
    have ends : s.lateHeader i c c.kind status = s.lateEnd i c status :=
      if_neg (by simp [hasBeats_eq_false beatless])
    have moved : (s.lateEnd i c status).slot i ≠ s.slot i := by simp [State.lateEnd, orphaned]
    rw [taken, State.classifyHeader_of_orphaned orphaned, ends, State.decideAfter_of_moved moved,
      State.lateEnd, State.withChannel_self (by simpa using idle)]
    rfl
  · have same : (s.strayHeader i kind status).slots = s.slots := by simp [State.strayHeader]
    rw [taken, State.classifyHeader_of_stray status stray, State.decideAfter_of_same same]
    simp only [State.strayHeader, State.withChannel, hasBeats_iff]

/-! ### The end of a completion in progress -/

theorem State.endCompletion_of_receiving {s : State} {i : SlotId} {c : Command} {d : Deadline}
    {beats : List BeatData} (receiving : s.slot i = .receiving c d beats) :
    s.endCompletion i = s.mismatch i c := by
  simp [State.endCompletion, receiving]

theorem State.endCompletion_of_orphaned {s : State} {i : SlotId} {c : Command}
    (orphaned : s.slot i = .orphaned c) : s.endCompletion i = s.lateEnd i c .good := by
  simp [State.endCompletion, orphaned]

/-- A mismatch, with the entry it settles where it stands in the list (R76). -/
theorem State.mismatch_of_found {s : State} {i : SlotId} {c : Command}
    {before after : List ReplyEntry} {e : ReplyEntry} (notPosted : c.posted = false)
    (found : s.LinkFound i c before e after) :
    s.mismatch i c
      = (((s.withSlot i .free).withChannel .awaitHeader).withReplies c.port
          (beginDelivery (before ++ e.become (.ready .dataError []) :: after))).record
            (.completionMismatch c.port i c.block c.sequence) := by
  rw [State.mismatch, State.settleSlot_of_found .dataError [] notPosted found]
  rfl

/-- A header takes no FREE slot (R66). -/
theorem State.KeepsFree.classifyHeader (s : State) (i : SlotId) (kind : Kind)
    (status : MemStatus) : s.KeepsFree (s.classifyHeader i kind status) := by
  rcases s.classifyHeader_cases i kind status with ⟨slots, -⟩ | ⟨held, -, others⟩
  · exact .of_same slots
  · intro j free
    have other : j ≠ i := by
      rintro rfl
      exact held free
    rwa [others j other]

/-- A header that frees the slot of a completion in progress is followed by a decision, whatever its
own slot (R43). -/
theorem exec_header_of_freed {s : State} {j : SlotId} (running : s.deviceReset = false)
    (up : s.link = .up) (held : s.slot j ≠ .free) (freed : s.interrupt.slot j = .free) (i : SlotId)
    (kind : Kind) (status : MemStatus) :
    exec (.completionHeader i kind status) s
      = .next (s.interrupt.classifyHeader i kind status).takeDecision := by
  have stays := State.KeepsFree.classifyHeader s.interrupt i kind status j freed
  rw [exec_header_eq running up, State.decideAfter_of_moved (i := j) (stays ▸ held.symm)]

/-- Settles O33: the slot in progress is freed by a mismatch or as a late completion. After a stray
run no slot changes before the header is classified. -/
theorem headerEndsTheCompletionInProgress : Obligations.HeaderEndsTheCompletionInProgress := by
  intro s i j c kind status running up
  refine ⟨fun d beats before e after busy receiving notPosted found => ?_,
    fun discard orphaned => ?_, fun run => ?_⟩
  · have ended : s.interrupt = s.mismatch j c := by
      rw [State.interrupt_of_busy busy, State.endCompletion_of_receiving receiving]
    have freed : s.interrupt.slot j = .free := by simp [ended, State.mismatch]
    rw [exec_header_of_freed running up (by simp [receiving]) freed, ended,
      State.mismatch_of_found notPosted found]
    rfl
  · have ended : s.interrupt = s.lateEnd j c .good := by
      rw [State.interrupt_of_busy (.inr discard), State.endCompletion_of_orphaned orphaned]
    have freed : s.interrupt.slot j = .free := by simp [ended, State.lateEnd]
    rw [exec_header_of_freed running up (by simp [orphaned]) freed, ended]
    rfl
  · have ended : s.interrupt = s.withChannel .awaitHeader := by simp [State.interrupt, run]
    have waits : (s.withChannel .awaitHeader).interrupt = s.withChannel .awaitHeader :=
      State.interrupt_of_idle rfl
    show _ = exec (.completionHeader i kind status) (s.withChannel .awaitHeader)
    rw [exec_header_eq running up, ended,
      exec_header_eq (s := s.withChannel .awaitHeader) running up, waits]
    rfl

/-! ### Read beats -/

/-- A beat in DATA, for the slot that receives it (R75). -/
theorem exec_readBeat_of_data {s : State} {i : SlotId} {c : Command} {d : Deadline}
    {beats : List BeatData} (running : s.deviceReset = false) (up : s.link = .up)
    (channel : s.completion = .data i) (receiving : s.slot i = .receiving c d beats)
    (data : BeatData) (last : Bool) :
    exec (.readBeat data last) s = .next (s.dataBeat i c d beats data last) := by
  show execReadBeat data last s = _
  simp [execReadBeat, State.linkIsUp, running, up, channel, receiving]

/-- A beat in DISCARD without the last marker (R77, R78). -/
theorem exec_readBeat_of_discard {s : State} {x : Option SlotId} (running : s.deviceReset = false)
    (up : s.link = .up) (channel : s.completion = .discard x) (data : BeatData) :
    exec (.readBeat data false) s = .next s := by
  show execReadBeat data false s = _
  cases x <;> simp [execReadBeat, State.linkIsUp, running, up, channel]

/-- The last-marked beat in DISCARD for a slot (R76, R77). -/
theorem exec_lastBeat_of_discard {s : State} {i : SlotId} (running : s.deviceReset = false)
    (up : s.link = .up) (channel : s.completion = .discard (some i)) (data : BeatData) :
    exec (.readBeat data true) s = .next (s.endCompletion i).takeDecision := by
  show execReadBeat data true s = _
  simp [execReadBeat, State.linkIsUp, running, up, channel]

/-- A last-marked beat that does not fill the length is a mismatch (R76). -/
theorem State.dataBeat_of_mismatch (s : State) (i : SlotId) {c : Command} (d : Deadline)
    {beats : List BeatData} (data : BeatData) (unequal : beats.length + 1 ≠ c.length) :
    s.dataBeat i c d beats data true = (s.mismatch i c).takeDecision := by
  rcases Nat.lt_or_ge beats.length c.length with below | full
  · simp [State.dataBeat, below, unequal]
  · simp [State.dataBeat, full.not_gt]

/-- Settles O34: the header of a GOOD read, a beat placed, and the beat that ends the read. -/
theorem readDataFillsTheReply : Obligations.ReadDataFillsTheReply := by
  intro s i c d running up
  refine ⟨fun idle issued read => ?_, fun beats data channel receiving =>
    ⟨fun below => ?_, fun before e after fills notPosted found => ?_⟩⟩
  · rw [← read, exec_header_of_issued running up idle issued,
      State.issuedHeader_goodRead s i d read]
    rfl
  · rw [exec_readBeat_of_data running up channel receiving]
    simp [State.dataBeat, below, State.withSlot]
  · have good : s.dataBeat i c d beats data true
        = (s.goodRead i c (beats ++ [data])).takeDecision := by
      simp [State.dataBeat, fills, show beats.length < c.length by omega]
    rw [exec_readBeat_of_data running up channel receiving, good, State.goodRead,
      State.settleSlot_of_found .ok (beats ++ [data]) notPosted found] <;> rfl

/-- Settles O35: a last-marked beat in DATA or in DISCARD, and a beat too many without the marker. -/
theorem readMismatchSettlesDataError : Obligations.ReadMismatchSettlesDataError := by
  intro s i c d beats data running up receiving
  refine ⟨fun before e after notPosted found course => ?_, fun channel full => ?_⟩
  · have ended : exec (.readBeat data true) s = .next (s.mismatch i c).takeDecision := by
      rcases course with ⟨channel, unequal⟩ | channel
      · rw [exec_readBeat_of_data running up channel receiving,
          State.dataBeat_of_mismatch s i d data unequal]
      · rw [exec_lastBeat_of_discard running up channel,
          State.endCompletion_of_receiving receiving]
    rw [ended, State.mismatch_of_found notPosted found]
    rfl
  · rw [exec_readBeat_of_data running up channel receiving]
    simp [State.dataBeat, full.not_gt, State.withChannel]

/-- While the link is not UP every item is taken and discarded (R71). -/
theorem exec_readBeat_of_down {s : State} (down : s.link ≠ .up) (data : BeatData) (last : Bool) :
    exec (.readBeat data last) s = .next s := by
  show execReadBeat data last s = _
  simp [execReadBeat, State.linkIsUp, down]

theorem exec_header_of_down {s : State} (down : s.link ≠ .up) (i : SlotId) (kind : Kind)
    (status : MemStatus) : exec (.completionHeader i kind status) s = .next s := by
  show execCompletionHeader i kind status s = _
  simp [execCompletionHeader, State.linkIsUp, down]

/-- Settles O36, by the state of the link and of the completion channel. -/
theorem otherItemsAreDiscarded : Obligations.OtherItemsAreDiscarded := by
  intro s data last
  refine ⟨fun down => ⟨exec_readBeat_of_down down data last, exec_header_of_down down⟩,
    fun running up => ⟨fun x channel => exec_readBeat_of_discard running up channel data,
      fun channel => ?_, fun i c channel orphaned => ?_, fun channel => ?_⟩⟩
  · show execReadBeat data true s = _
    simp [execReadBeat, State.linkIsUp, running, up, channel, State.withChannel]
  · rw [exec_lastBeat_of_discard running up channel, State.endCompletion_of_orphaned orphaned]
    rfl
  · show execReadBeat data last s = _
    simp [execReadBeat, State.linkIsUp, running, up, channel, State.strayBeat, State.withChannel]

end Sys2Proof.Machine
end

section
/-! SUPPORT and PROOFS. The posted writes a link down or a reset loses, the link down, the expiry of a
slot, and device reset and soft reset. -/

namespace Sys2Proof

variable {α : Type} {n : Nat}

/-- The last of two changes of a place stands. -/
@[simp] theorem put_put (v : Vector α n) (i : Fin n) (x y : α) : put (put v i x) i y = put v i y :=
  row_ext fun j => by
    rw [look_put, look_put, look_put]
    split <;> rfl

end Sys2Proof

namespace Sys2Proof.Machine

/-! ### Lost posted writes -/

/-- A slot in SENDING or ISSUED with a posted write reports its loss, and no other (R85, R87). -/
theorem Slot.loss_eq_some {x : Slot} {i : SlotId} {cause : LossCause} {o : Occasion} :
    x.loss i cause = some o ↔
      ∃ c, ((∃ share taken mark, x = .sending c share taken mark) ∨ ∃ d, x = .issued c d)
        ∧ c.posted = true
        ∧ o = .postedWriteFailed c.port (some i) c.block c.sequence cause := by
  cases x with
  | sending c share taken mark | issued c d => simp [Slot.loss, eq_comm (a := o)]
  | free | receiving c d beats | orphaned c => simp [Slot.loss]

/-- The losses of slots are reported in rising order of slot number (R122, R154). -/
theorem State.slotLosses_rising (s : State) (cause : LossCause) :
    (s.slotLosses cause).Pairwise fun a b => ∀ i j p b₁ q₁ p' b₂ q₂,
      a = .postedWriteFailed p (some i) b₁ q₁ cause →
        b = .postedWriteFailed p' (some j) b₂ q₂ cause → i < j := by
  refine (List.pairwise_lt_finRange 32).filterMap _ fun k l rising a ha b hb => ?_
  obtain ⟨c, -, -, rfl⟩ := Slot.loss_eq_some.1 ha
  obtain ⟨d, -, -, rfl⟩ := Slot.loss_eq_some.1 hb
  intro i j p b₁ q₁ p' b₂ q₂ isLower isUpper
  simp only [Occasion.postedWriteFailed.injEq, Option.some.injEq] at isLower isUpper
  obtain ⟨-, rfl, -⟩ := isLower
  obtain ⟨-, rfl, -⟩ := isUpper
  exact rising

/-- The losses of a queue are those of its posted writes, oldest first (R36, R148). -/
theorem State.queueLosses_eq (s : State) (p : PortId) (cause : LossCause) :
    s.queueLosses p cause
      = ((s.port p).queue.filter fun q => q.posted).map
          fun q => .postedWriteFailed p none q.block q.sequence cause := by
  unfold State.queueLosses
  induction (s.port p).queue with
  | nil => rfl
  | cons q rest ih => cases posted : q.posted <;> simp [QueuedRequest.loss, posted, ih]

/-- Settles O38: the losses of slots as a filtered row, those of queues port by port. -/
theorem lostPostedWritesAreReported : Obligations.LostPostedWritesAreReported := by
  intro s cause
  refine ⟨fun o => ?_, s.slotLosses_rising cause, fun p => s.queueLosses_eq p cause, ?_⟩
  · simp [State.slotLosses, Slot.loss_eq_some]
  · have ports : List.finRange 4 = [0, 1, 2, 3] := by decide
    simp [State.resetLosses, ports]

/-! ### A link down -/

/-- A link down settles an entry that the slot it names links to (R104). -/
theorem State.linkResetEntry_of_pending {s : State} {p : PortId} {e : ReplyEntry} {i : SlotId}
    (pending : e.state = .pending i)
    (linked : ∃ c ∈ (s.slot i).replyLink?, c.port = p ∧ c.sequence = e.sequence) :
    s.linkResetEntry p e = e.become (.ready .linkReset []) := by
  obtain ⟨c, link, port, sequence⟩ := linked
  have found : s.linkedEntry p e = true := by
    simp [State.linkedEntry, pending, Option.mem_def.1 link, port, sequence]
  exact if_pos found

/-- A link down leaves every entry alone that is not PENDING (R104). -/
theorem State.linkResetEntry_of_not_pending {s : State} {p : PortId} {e : ReplyEntry}
    (settled : ∀ i, e.state ≠ .pending i) : s.linkResetEntry p e = e := by
  have unlinked : s.linkedEntry p e = false := by
    cases state : e.state with
    | pending i => exact absurd state (settled i)
    | waiting | ready status data | delivering status data taken =>
      simp [State.linkedEntry, state]
  exact if_neg (by simp [unlinked])

/-- A port after a link down, where each of its PENDING entries is linked and `f` settles those. -/
theorem State.linkResetPort_eq {s : State} {p : PortId} (linked : s.PendingLinked p)
    {f : ReplyEntry → ReplyEntry}
    (pending : ∀ e i, e.state = .pending i → f e = e.become (.ready .linkReset []))
    (settled : ∀ e, (∀ i, e.state ≠ .pending i) → f e = e) :
    s.linkResetPort p
      = { s.port p with replies := beginDelivery ((s.port p).replies.map f) } := by
  have entries : (s.port p).replies.map (s.linkResetEntry p) = (s.port p).replies.map f := by
    refine List.map_congr_left fun e listed => ?_
    by_cases waits : ∃ i, e.state = .pending i
    · obtain ⟨i, state⟩ := waits
      rw [State.linkResetEntry_of_pending state (linked e listed i state), pending e i state]
    · have others : ∀ i, e.state ≠ .pending i := fun i state => waits ⟨i, state⟩
      rw [State.linkResetEntry_of_not_pending others, settled e others]
  rw [State.linkResetPort, entries]

/-- Settles O39: both causes take the link down, and the ports are those of `linkResetPort`. -/
theorem linkDownFreesEverySlot : Obligations.LinkDownFreesEverySlot := by
  intro s running up linked reset down
  have ports : (fun p => s.linkResetPort p)
      = fun p => { s.port p with replies := beginDelivery ((s.port p).replies.map reset) } := by
    funext p
    refine State.linkResetPort_eq (linked p) (fun e i state => ?_) (fun e settled => ?_)
    · simp [reset, state]
    · cases state : e.state with
      | pending i => exact absurd state (settled i)
      | waiting | ready status data | delivering status data taken => simp [reset, state]
  have taken (cause : DownCause) (link : LinkState) (ready : Bool) :
      { s with linkReady := ready : State }.takeLinkDown cause link = down cause link ready := by
    simp only [down, ← ports]
    rfl
  constructor
  · have falls : s.linkReadyFalls
        = { s with linkReady := false : State }.takeLinkDown .readyFell .down := by
      simp [State.linkReadyFalls, running, up]
    show Host.Outcome.next s.linkReadyFalls = _
    rw [falls, taken]
  · have restarts : s.restartLink = s.takeLinkDown .restart .restarting := by
      simp [State.restartLink, up]
    have code : s.restartLink.link.code = 2 := by
      simp [restarts, State.takeLinkDown, LinkState.code]
    show Host.Outcome.next (s.take .linkRestart) = _
    rw [State.take_eq running]
    simp only [State.perform, State.mgmtLinkRestart, code]
    rw [restarts, ← taken]
    rfl

/-! ### The expiry of a slot -/

/-- Slot `i` holds `c` in the state, ISSUED or RECEIVING, in which a deadline may end (R117). -/
def State.HeldIn (s : State) (i : SlotId) (c : Command) (state : ExpiryState) : Prop :=
  (state = .issued ∧ ∃ d, s.slot i = .issued c d)
    ∨ (state = .receiving ∧ ∃ d beats, s.slot i = .receiving c d beats)

theorem State.expireSlot_of_held {s : State} {i : SlotId} {c : Command} {state : ExpiryState}
    (held : s.HeldIn i c state) : s.expireSlot i = s.expire i c state := by
  rcases held with ⟨rfl, d, slot⟩ | ⟨rfl, d, beats, slot⟩ <;> simp [State.expireSlot, slot]

/-- Orphaning turns a DATA for the slot to DISCARD, and changes no other channel state (R79). -/
theorem State.orphan_of_held {s : State} {i : SlotId} {c : Command} {state : ExpiryState}
    (held : s.HeldIn i c state) :
    s.orphan i = (s.withSlot i (.orphaned c)).withChannel
      (if state = .receiving ∧ s.completion = .data i then .discard (some i)
        else s.completion) := by
  rcases held with ⟨rfl, d, slot⟩ | ⟨rfl, d, beats, slot⟩
  · rw [State.orphan_of_issued slot, if_neg (by simp)]
    rfl
  · simp [State.orphan_of_receiving slot, State.withChannel]

/-- An entry settled and the timeout counted, in one change of the port (R118, R130). -/
theorem State.withReplies_countTimeout (s : State) (p : PortId) (replies : List ReplyEntry) :
    (s.withReplies p replies).withPort p Port.countTimeout
      = { s with ports := put s.ports p { s.port p with
            replies := replies
            counters := { (s.port p).counters with
              timeouts := (s.port p).counters.timeouts + 1 } } } := by
  simp [State.withReplies, State.withPort, State.port, Port.countTimeout]

/-- DEADLINE_EXPIRY of a slot that expires, and of any other (R118, log 3). -/
theorem exec_deadlineExpiry_eq {s : State} (running : s.deviceReset = false) (i : SlotId) :
    exec (.deadlineExpiry i) s
      = .next (if (s.slot i).expires then s.reachTickEnd.expireSlot i else s) := by
  show execDeadlineExpiry i s = _
  cases expires : (s.slot i).expires <;> simp [execDeadlineExpiry, running, expires]

theorem expiryOccasions_of_posted (i : SlotId) {c : Command} (state : ExpiryState)
    (posted : c.posted = true) :
    expiryOccasions i c state
      = [.timeout c.port i c.block c.sequence state,
         .postedWriteFailed c.port (some i) c.block c.sequence .timeout] := if_pos posted

theorem expiryOccasions_of_not_posted (i : SlotId) {c : Command} (state : ExpiryState)
    (notPosted : c.posted = false) :
    expiryOccasions i c state = [.timeout c.port i c.block c.sequence state] :=
  if_neg (by simp [notPosted])

/-- Settles O37: the expiry of a held slot, posted or not, the other slots, and the command. -/
theorem deadlineExpiryOrphansTheSlot : Obligations.DeadlineExpiryOrphansTheSlot := by
  intro s i
  refine ⟨fun c state held => ?_, fun idle => ?_, fun running => ⟨fun ends => ?_,
    fun notIssued notReceiving => ?_⟩⟩
  · have expires := State.expireSlot_of_held held
    rw [State.expire, State.orphan_of_held held] at expires
    refine ⟨fun posted => ?_, fun before e after notPosted found => ?_⟩
    · rw [expires, State.settleSlot_of_posted i .timeout [] posted,
        expiryOccasions_of_posted i state posted]
      rfl
    · rw [expires, State.settleSlot_of_found .timeout [] notPosted found,
        State.withReplies_countTimeout, expiryOccasions_of_not_posted i state notPosted] <;> rfl
  · cases slot : s.slot i with
    | free | sending c share taken mark | orphaned c => simp [State.expireSlot, slot]
    | issued c d | receiving c d beats =>
      simp [slot, Slot.isFree, Slot.isSending, Slot.isOrphaned] at idle
  · rw [exec_deadlineExpiry_eq running, if_pos ((Slot.expires_iff _).2 ends)]
    rfl
  · have lasts : ¬ (s.slot i).expires = true := fun expires => by
      rcases (Slot.expires_iff _).1 expires with ⟨c, slot⟩ | ⟨c, beats, slot⟩
      · exact notIssued c slot
      · exact notReceiving c beats slot
    rw [exec_deadlineExpiry_eq running, if_neg lasts]

/-! ### Device reset and soft reset -/

/-- The state with the management frame replaced. -/
def State.withFrame (s : State) (frame : MgmtFrame) : State := { s with frame := frame }

/-- What a record is formed of does not include the management frame (R145). -/
theorem State.record_withFrame (s : State) (frame : MgmtFrame) (o : Occasion) :
    (s.withFrame frame).record o = (s.record o).withFrame frame := by
  cases enabled : look s.enables o.kindCode with
  | false => rw [s.record_of_disabled o enabled, (s.withFrame frame).record_of_disabled o enabled]
  | true =>
    by_cases room : s.events.length < Config.eventCapacity
    · rw [s.record_of_room o enabled room, (s.withFrame frame).record_of_room o enabled room]
      rfl
    · rw [s.record_of_full o enabled room, (s.withFrame frame).record_of_full o enabled room]
      rfl

theorem State.recordAll_withFrame (s : State) (frame : MgmtFrame) (os : List Occasion) :
    (s.withFrame frame).recordAll os = (s.recordAll os).withFrame frame := by
  induction os generalizing s with
  | nil => rfl
  | cons o os ih => rw [recordAll_cons, recordAll_cons, record_withFrame, ih]

/-- Every block at its reset state, before the losses are recorded (R87, R141, R167). -/
def State.blocksReset (s : State) : State :=
  { State.reset with
    pending := s.pending
    draws := s.draws
    linkReady := s.linkReady
    ports := tabulate fun p => Port.afterReset (s.port p).resetInput }

/-- A reset leaves the management frame as it is told (R158, R167). -/
theorem State.resetBlocks_eq (s : State) (frame : MgmtFrame) :
    s.resetBlocks frame = (s.blocksReset.recordAll s.resetLosses).withFrame frame :=
  s.blocksReset.recordAll_withFrame frame s.resetLosses

/-- Settles O6: assertion, release and SOFT_RESET, each at the level it acts on. -/
theorem resetsSetEveryBlock : Obligations.ResetsSetEveryBlock := by
  intro s
  refine ⟨fun running => ?_, fun standing => ?_, fun standing => ?_, fun running => ?_,
    fun running => ?_⟩
  · show execDeviceResetAssert s = _
    simp [execDeviceResetAssert, running]
  · show execDeviceResetAssert s = _
    simp [execDeviceResetAssert, standing]
  · show execDeviceResetRelease s = _
    simp only [execDeviceResetRelease, standing, if_true]
    rfl
  · show execDeviceResetRelease s = _
    simp [execDeviceResetRelease, running]
  · show Host.Outcome.next (s.take .softReset) = _
    rw [State.take_eq running]
    simp only [State.perform, State.mgmtSoftReset]
    rw [State.resetBlocks_eq]
    rfl

end Sys2Proof.Machine
end

section
/-! SUPPORT and PROOFS. The replies of every port: their soundness read place by place, one rule per
operation, and that every step keeps it. -/

namespace Sys2Proof

variable {α : Type}

/-- A replacement of what a filter leaves out by what it leaves out. -/
theorem updateFirst_filter {p keep : α → Bool} {f : α → α}
    (before : ∀ x, p x = true → keep x = false) (after : ∀ x, p x = true → keep (f x) = false)
    (l : List α) : (updateFirst p f l).filter keep = l.filter keep := by
  rcases firstMatch_or_none p l with none | ⟨b, x, a, rfl, hb, hx⟩
  · rw [updateFirst_of_none p f l none]
  · rw [updateFirst_split p f b x a hb hx]
    simp [before x hx, after x hx]

/-- A replacement relates each entry to itself, but for the one it replaces. -/
theorem forall₂_updateFirst {p : α → Bool} {f : α → α} {R : α → α → Prop} (same : ∀ x, R x x)
    (replaced : ∀ x, R x (f x)) (l : List α) : List.Forall₂ R l (updateFirst p f l) := by
  induction l with
  | nil => exact .nil
  | cons x xs ih =>
    simp only [updateFirst]
    split
    · exact .cons (replaced x) (List.forall₂_same.2 fun y _ => same y)
    · exact .cons (same x) ih

end Sys2Proof

namespace Sys2Proof.Machine

/-! ### The soundness of replies, place by place -/

/-- What a port keeps by itself of its reply list (R90, R91, R97). -/
def Port.ListSound (r : Port) : Prop := r.SequencesRun ∧ r.DeliverySound ∧ r.WaitingLinked

/-- The list holds an entry of this sequence that is PENDING on slot `i`. -/
def Pends (l : List ReplyEntry) (i : SlotId) (q : Sequence) : Prop :=
  ∃ e ∈ l, e.sequence = q ∧ e.state = .pending i

/-- The slot holds a reply link to the entry of port `p` with this sequence (Table 21). -/
def Slot.LinksTo (x : Slot) (p : PortId) (q : Sequence) : Prop :=
  ∃ c ∈ x.replyLink?, c.port = p ∧ c.sequence = q

/-- Replies are sound when every list is, and an entry is PENDING on a slot exactly when the slot
links to it (R90). -/
theorem State.repliesSound_iff {s : State} :
    s.RepliesSound ↔ (∀ p, (s.port p).ListSound)
      ∧ ∀ p i q, Pends (s.port p).replies i q ↔ (s.slot i).LinksTo p q := by
  constructor
  · rintro ⟨ports, answered⟩
    refine ⟨fun p => ?_, fun p i q => ⟨?_, ?_⟩⟩
    · obtain ⟨run, delivery, waiting, -⟩ := ports p
      exact ⟨run, delivery, waiting⟩
    · rintro ⟨e, listed, rfl, pending⟩
      obtain ⟨-, -, -, linked⟩ := ports p
      exact linked e listed i pending
    · rintro ⟨c, link, rfl, rfl⟩
      exact answered i c link
  · rintro ⟨lists, links⟩
    refine ⟨fun p => ?_, fun i c link => (links _ i _).2 ⟨c, link, rfl, rfl⟩⟩
    obtain ⟨run, delivery, waiting⟩ := lists p
    exact ⟨run, delivery, waiting,
      fun e listed i pending => (links p i _).1 ⟨e, listed, rfl, pending⟩⟩

theorem Slot.not_linksTo {x : Slot} (h : x.replyLink? = none) (p : PortId) (q : Sequence) :
    ¬ x.LinksTo p q := by
  simp [LinksTo, h]

theorem Slot.linksTo_of_some {x : Slot} {c : Command} (h : x.replyLink? = some c) {p : PortId}
    {q : Sequence} : x.LinksTo p q ↔ c.port = p ∧ c.sequence = q := by
  simp [LinksTo, h]

@[simp] theorem pends_nil (i : SlotId) (q : Sequence) : ¬ Pends [] i q := by
  simp [Pends]

@[simp] theorem pends_cons (e : ReplyEntry) (l : List ReplyEntry) (i : SlotId) (q : Sequence) :
    Pends (e :: l) i q ↔ (e.sequence = q ∧ e.state = .pending i) ∨ Pends l i q := by
  simp [Pends]

@[simp] theorem pends_append (l m : List ReplyEntry) (i : SlotId) (q : Sequence) :
    Pends (l ++ m) i q ↔ Pends l i q ∨ Pends m i q := by
  simp [Pends, or_and_right, exists_or]

/-- The beginning of a delivery leaves PENDING entries alone. -/
@[simp] theorem pends_beginDelivery (l : List ReplyEntry) (i : SlotId) (q : Sequence) :
    Pends (beginDelivery l) i q ↔ Pends l i q := by
  cases l with
  | nil => rfl
  | cons e es => cases state : e.state <;> simp [beginDelivery, state]

/-- The settling of the entry that slot `i` links to leaves every other PENDING entry, where the
sequences are distinct (R94). -/
theorem pends_settled {l : List ReplyEntry} (distinct : (l.map ReplyEntry.sequence).Nodup)
    (i : SlotId) (c : Command) (status : ReplyStatus) (data : List BeatData) (j : SlotId)
    (q : Sequence) :
    Pends (updateFirst (linkedToSlot i c) (fun e => { e with state := .ready status data }) l) j q
      ↔ Pends l j q ∧ ¬ (j = i ∧ q = c.sequence) := by
  rcases firstMatch_or_none (linkedToSlot i c) l with none | ⟨before, e, after, rfl, hb, he⟩
  · rw [updateFirst_of_none _ _ l none]
    refine ⟨fun pends => ⟨pends, ?_⟩, And.left⟩
    rintro ⟨rfl, rfl⟩
    obtain ⟨e, listed, sequence, state⟩ := pends
    simpa [linkedToSlot, sequence, state] using none e listed
  · rw [updateFirst_split _ _ before e after hb he]
    simp only [linkedToSlot, Bool.and_eq_true, decide_eq_true_eq] at he
    obtain ⟨sequence, state⟩ := he
    simp only [List.map_append, List.map_cons, List.nodup_append, List.nodup_cons] at distinct
    obtain ⟨-, ⟨notAfter, -⟩, apart⟩ := distinct
    have others : ∀ x, x ∈ before ∨ x ∈ after → x.sequence ≠ c.sequence := by
      rintro x (listed | listed) same
      · exact apart _ (List.mem_map_of_mem listed) _ List.mem_cons_self (same.trans sequence.symm)
      · exact notAfter (sequence.trans same.symm ▸ List.mem_map_of_mem listed)
    have gone : ∀ m, (∀ x ∈ m, x ∈ before ∨ x ∈ after) → Pends m j q → q ≠ c.sequence := by
      rintro m within ⟨x, listed, rfl, -⟩
      exact others x (within x listed)
    have before' := gone before fun x => .inl
    have after' := gone after fun x => .inr
    simp only [pends_append, pends_cons, reduceCtorEq, and_false, false_or, sequence, state,
      EntryState.pending.injEq]
    grind

/-! ### Runs of sequences -/

/-- The `n` consecutive sequences before the next one (R91). -/
def runTo (next : Sequence) (n : Nat) : List Sequence :=
  (List.range n).map fun k => next - BitVec.ofNat 8 (n - k)

theorem Port.sequencesRun_iff {r : Port} :
    r.SequencesRun ↔ r.replies.map ReplyEntry.sequence = runTo r.nextSequence r.replies.length :=
  Iff.rfl

/-- The next sequence, once taken, ends the run (R91). -/
theorem runTo_succ (next : Sequence) (n : Nat) :
    runTo (next + 1) (n + 1) = runTo next n ++ [next] := by
  simp only [runTo, List.range_succ, List.map_append, List.map_cons, List.map_nil]
  congr 1
  · refine List.map_congr_left fun k below => ?_
    have shift : n + 1 - k = n - k + 1 := by have := List.mem_range.1 below; omega
    rw [shift, BitVec.ofNat_add]
    exact add_sub_add_right_eq_sub _ _ _
  · simp

/-- A run without its first sequence is the run of one less (R99). -/
theorem runTo_tail (next : Sequence) (n : Nat) : (runTo next (n + 1)).tail = runTo next n := by
  simp [runTo, List.range_succ_eq_map, Function.comp_def]

/-! ### One port's list -/

/-- The second port keeps the first one's list sound, and has the same PENDING entries. -/
structure Port.KeepsReplies (r r' : Port) : Prop where
  sound : r.ListSound → r'.ListSound
  pends : ∀ i q, Pends r'.replies i q ↔ Pends r.replies i q

theorem Port.KeepsReplies.of_same {r r' : Port} (queue : r'.queue = r.queue)
    (replies : r'.replies = r.replies) (next : r'.nextSequence = r.nextSequence) :
    r.KeepsReplies r' := by
  refine ⟨fun h => ?_, fun i q => by rw [replies]⟩
  simpa only [ListSound, SequencesRun, DeliverySound, WaitingLinked, queue, replies, next] using h

theorem Port.KeepsReplies.refl (r : Port) : r.KeepsReplies r := .of_same rfl rfl rfl

/-- A port with nothing in its queue and its list (R102). -/
theorem Port.listSound_of_empty {r : Port} (queue : r.queue = []) (replies : r.replies = []) :
    r.ListSound := by
  simp [ListSound, SequencesRun, DeliverySound, WaitingLinked, queue, replies]

/-- An entry that stays, or is settled where it stands (R94). -/
def ReplyEntry.SettlesTo (e e' : ReplyEntry) : Prop :=
  e' = e ∨ ∃ status data, e' = e.become (.ready status data)

theorem ReplyEntry.SettlesTo.sequences {l m : List ReplyEntry}
    (h : List.Forall₂ ReplyEntry.SettlesTo l m) :
    m.map ReplyEntry.sequence = l.map ReplyEntry.sequence := by
  induction h with
  | nil => rfl
  | cons settles _ ih =>
    rcases settles with rfl | ⟨status, data, rfl⟩ <;> simp [ih, ReplyEntry.become]

/-- A settled entry is not DELIVERING before its delivery begins (R97). -/
theorem ReplyEntry.SettlesTo.calm {l m : List ReplyEntry}
    (h : List.Forall₂ ReplyEntry.SettlesTo l m) (calm : ∀ e ∈ l, e.state.isDelivering = false) :
    ∀ e ∈ m, e.state.isDelivering = false := by
  induction h with
  | nil => exact calm
  | cons settles _ ih =>
    rw [List.forall_mem_cons] at calm ⊢
    refine ⟨?_, ih calm.2⟩
    rcases settles with rfl | ⟨status, data, rfl⟩
    · exact calm.1
    · rfl

theorem ReplyEntry.SettlesTo.calm_tail {l m : List ReplyEntry}
    (h : List.Forall₂ ReplyEntry.SettlesTo l m)
    (calm : ∀ e ∈ l.tail, e.state.isDelivering = false) :
    ∀ e ∈ m.tail, e.state.isDelivering = false := by
  cases h with
  | nil => exact calm
  | cons _ rest => exact ReplyEntry.SettlesTo.calm rest calm

/-- Entries settled where they stand, and the delivery begun of the head (R94, R97). -/
theorem Port.ListSound.settled {r r' : Port} {l : List ReplyEntry} (h : r.ListSound)
    (each : List.Forall₂ ReplyEntry.SettlesTo r.replies l)
    (replies : r'.replies = beginDelivery l) (next : r'.nextSequence = r.nextSequence)
    (waiting : (l.filter fun e => decide (e.state = .waiting)).map ReplyEntry.sequence
      = (r'.queue.filter fun q => !q.posted).map QueuedRequest.sequence) : r'.ListSound := by
  obtain ⟨run, ⟨-, tail⟩, -⟩ := h
  refine ⟨?_, beginDelivery_sound replies (ReplyEntry.SettlesTo.calm_tail each tail), ?_⟩
  · rw [sequencesRun_iff, replies, next, beginDelivery_sequences, beginDelivery_length,
      ReplyEntry.SettlesTo.sequences each, ← each.length_eq]
    exact run
  · rw [WaitingLinked, replies, beginDelivery_waiting]
    exact waiting

/-- A new entry takes the next sequence. It is WAITING when its request is queued unposted, and
READY otherwise (R31, R32, R91). -/
theorem Port.KeepsReplies.appended {r r' : Port} {x : Request} {state : EntryState}
    (replies : r'.replies = (r.appendReply x state).replies)
    (next : r'.nextSequence = r.nextSequence + 1)
    (course : (state = .waiting ∧ ∃ q, r'.queue = r.queue ++ [q] ∧ q.posted = false
          ∧ q.sequence = r.nextSequence)
      ∨ (state.isReady = true
          ∧ r'.queue.filter (fun q => !q.posted) = r.queue.filter fun q => !q.posted)) :
    r.KeepsReplies r' := by
  have still : state.isDelivering = false ∧ ∀ i, state ≠ .pending i := by
    rcases course with ⟨rfl, -⟩ | ⟨ready, -⟩
    · simp [EntryState.isDelivering]
    · cases state <;> simp_all [EntryState.isReady, EntryState.isDelivering]
  obtain ⟨calm, free⟩ := still
  refine ⟨?_, fun i q => by simp [replies, appendReply, free]⟩
  rintro ⟨run, ⟨-, tail⟩, waiting⟩
  refine ⟨?_, beginDelivery_sound replies fun e behind => ?_, ?_⟩
  · rw [sequencesRun_iff] at run ⊢
    rw [replies, next, appendReply, beginDelivery_sequences, beginDelivery_length, List.map_append,
      run, List.length_append, List.length_singleton, runTo_succ]
    rfl
  · cases list : r.replies with
    | nil => simp [list] at behind
    | cons y ys =>
      rw [list] at behind tail
      rcases List.mem_append.1 behind with old | new
      · exact tail e old
      · rw [List.mem_singleton.1 new]
        exact calm
  · rw [WaitingLinked, replies, appendReply, beginDelivery_waiting, List.filter_append,
      List.map_append, waiting]
    rcases course with ⟨rfl, q, queue, notPosted, sequence⟩ | ⟨ready, queue⟩
    · simp [queue, notPosted, sequence]
    · rw [queue]
      cases state <;> simp_all [EntryState.isReady]

/-- A port with items still to be taken has a DELIVERING head (R97, R98). -/
theorem Port.head_of_itemsLeft {r : Port} (h : 0 < r.itemsLeft) :
    ∃ e es status data taken, r.replies = e :: es ∧ e.state = .delivering status data taken := by
  cases replies : r.replies with
  | nil => simp [itemsLeft, replies] at h
  | cons e es =>
    cases state : e.state with
    | delivering status data taken => exact ⟨e, es, status, data, taken, rfl, state⟩
    | waiting | pending i | ready status data => simp [itemsLeft, replies, state] at h

/-- An item taken is counted at the DELIVERING head (R98). -/
theorem Port.takeItem_of_head {r : Port} {e : ReplyEntry} {es : List ReplyEntry}
    {status : ReplyStatus} {data : List BeatData} {taken : Nat} (replies : r.replies = e :: es)
    (state : e.state = .delivering status data taken) :
    r.takeItem = { r with replies := e.become (.delivering status data (taken + 1)) :: es } := by
  simp only [takeItem, replies, state]
  rfl

theorem Port.KeepsReplies.takeItem {r : Port} (h : 0 < r.itemsLeft) :
    r.KeepsReplies r.takeItem := by
  obtain ⟨e, es, status, data, taken, replies, state⟩ := head_of_itemsLeft h
  rw [takeItem_of_head replies state]
  refine ⟨?_, fun i q => by simp [replies, state, ReplyEntry.become]⟩
  rintro ⟨run, ⟨-, tail⟩, waiting⟩
  refine ⟨?_, ⟨?_, by simpa [replies] using tail⟩, ?_⟩
  · simpa [sequencesRun_iff, replies, ReplyEntry.become] using run
  · simp [ReplyEntry.become, EntryState.isReady]
  · simpa [WaitingLinked, replies, state, ReplyEntry.become] using waiting

/-- The delivered head leaves the list, and the next begins (R99). -/
theorem Port.KeepsReplies.ended {r : Port} (h : 0 < r.itemsLeft) :
    r.KeepsReplies { r with replies := beginDelivery r.replies.tail } := by
  obtain ⟨e, es, status, data, taken, replies, state⟩ := head_of_itemsLeft h
  refine ⟨?_, fun i q => by simp [replies, state]⟩
  rintro ⟨run, ⟨-, tail⟩, waiting⟩
  refine ⟨?_, beginDelivery_sound rfl fun x behind => ?_, ?_⟩
  · have rest := congrArg List.tail (sequencesRun_iff.1 run)
    simpa [sequencesRun_iff, replies, runTo_tail] using rest
  · exact tail x (List.mem_of_mem_tail behind)
  · simpa [WaitingLinked, replies, state] using waiting

/-- Where the queue is linked, a flush settles exactly the WAITING entries (R104, R134). -/
theorem Port.flushes_iff {r : Port} (linked : r.WaitingLinked) {e : ReplyEntry}
    (listed : e ∈ r.replies) : r.flushes e = true ↔ e.state = .waiting := by
  simp only [flushes, Bool.and_eq_true, decide_eq_true_eq, List.any_eq_true, Bool.not_eq_true',
    and_iff_left_iff_imp]
  intro waits
  have among : e.sequence ∈ (r.queue.filter fun q => !q.posted).map QueuedRequest.sequence := by
    rw [← show _ = _ from linked]
    exact List.mem_map_of_mem (List.mem_filter.2 ⟨listed, by simp [waits]⟩)
  simpa [and_assoc] using among

/-- The entry as a flush leaves it: settled ABORTED if it is WAITING (R134). -/
def ReplyEntry.aborted (e : ReplyEntry) : ReplyEntry :=
  if e.state = .waiting then e.become (.ready .aborted []) else e

/-- A flush of a port whose WAITING entries are linked (R134). -/
theorem Port.flushed_eq {r : Port} (linked : r.WaitingLinked) :
    r.flushed = { r with
      mode := .draining, queue := []
      replies := beginDelivery (r.replies.map ReplyEntry.aborted) } := by
  have entries : (r.replies.map fun e =>
      if r.flushes e then { e with state := .ready .aborted [] } else e)
        = r.replies.map ReplyEntry.aborted := by
    refine List.map_congr_left fun e listed => ?_
    simp only [flushes_iff linked listed]
    rfl
  rw [Port.flushed, entries]

/-- A flush settles every WAITING entry, and leaves none (R134). -/
theorem Port.KeepsReplies.flushed {r : Port} (linked : r.WaitingLinked) :
    r.KeepsReplies r.flushed := by
  rw [flushed_eq linked]
  refine ⟨fun h => h.settled ?_ rfl rfl ?_, fun i q => ?_⟩
  · rw [List.forall₂_map_right_iff, List.forall₂_same]
    intro e _
    rw [ReplyEntry.aborted]
    split
    · exact .inr ⟨_, _, rfl⟩
    · exact .inl rfl
  · have none : (r.replies.map ReplyEntry.aborted).filter (fun e => decide (e.state = .waiting))
        = [] := by
      simp only [List.filter_eq_nil_iff, List.mem_map, decide_eq_true_eq]
      rintro _ ⟨e, _, rfl⟩
      rw [ReplyEntry.aborted]
      split
      · simp [ReplyEntry.become]
      · assumption
    rw [none]
    rfl
  · rw [pends_beginDelivery]
    simp only [Pends, List.mem_map, exists_exists_and_eq_and]
    refine exists_congr fun e => and_congr_right fun _ => ?_
    rw [ReplyEntry.aborted]
    split
    · simp [ReplyEntry.become, *]
    · rfl

/-! ### One rule per operation on the state -/

/-- Replies stay sound where ports keep their lists and slots their links. -/
theorem State.RepliesSound.of_keeps {s t : State} (h : s.RepliesSound)
    (ports : ∀ p, (s.port p).KeepsReplies (t.port p))
    (links : ∀ i, (t.slot i).replyLink? = (s.slot i).replyLink?) : t.RepliesSound := by
  obtain ⟨lists, agree⟩ := repliesSound_iff.1 h
  refine repliesSound_iff.2 ⟨fun p => (ports p).sound (lists p), fun p i q => ?_⟩
  rw [(ports p).pends, agree, Slot.LinksTo, ← links i]
  rfl

theorem State.RepliesSound.of_same {s t : State} (h : s.RepliesSound) (ports : t.ports = s.ports)
    (slots : t.slots = s.slots) : t.RepliesSound :=
  h.of_keeps (fun p => by simpa only [port, ports] using .refl _)
    fun i => by simp only [slot, slots]

theorem State.RepliesSound.record {s : State} (h : s.RepliesSound) (o : Occasion) :
    (s.record o).RepliesSound := h.of_same (by simp) (by simp)

theorem State.RepliesSound.recordAll {s : State} (h : s.RepliesSound) (os : List Occasion) :
    (s.recordAll os).RepliesSound := h.of_same (by simp) (by simp)

theorem State.RepliesSound.takeDecision {s : State} (h : s.RepliesSound) :
    s.takeDecision.RepliesSound := h.of_same (by simp) (by simp)

/-- A change of one port. -/
theorem State.RepliesSound.withPort {s : State} {p : PortId} {f : Port → Port}
    (h : s.RepliesSound) (keeps : (s.port p).KeepsReplies (f (s.port p))) :
    (s.withPort p f).RepliesSound := by
  refine h.of_keeps (fun q => ?_) fun i => rfl
  rw [withPort_port]
  split
  · subst_vars
    exact keeps
  · exact .refl _

/-- A change of one slot that keeps its reply link. -/
theorem State.RepliesSound.withSlot {s : State} {i : SlotId} {x : Slot} (h : s.RepliesSound)
    (link : x.replyLink? = (s.slot i).replyLink?) : (s.withSlot i x).RepliesSound := by
  refine h.of_keeps (fun p => .refl _) fun j => ?_
  rw [withSlot_slot]
  split
  · subst_vars
    exact link
  · rfl

theorem State.RepliesSound.drainCheck {s : State} (h : s.RepliesSound) (p : PortId) :
    (s.drainCheck p).RepliesSound := by
  rcases s.drainCheck_cases p with same | ⟨-, -, -, halted⟩
  · rwa [same]
  · rw [halted]
    exact (h.withPort (.of_same rfl rfl rfl)).record _

/-- The settling of a list's entry that a slot links to (R94). -/
theorem Port.ListSound.settle {r : Port} (h : r.ListSound) (i : SlotId) (c : Command)
    (status : ReplyStatus) (data : List BeatData) :
    Port.ListSound { r with replies := beginDelivery (updateFirst (linkedToSlot i c)
      (fun e => { e with state := .ready status data }) r.replies) } := by
  obtain ⟨-, -, waiting⟩ := id h
  refine h.settled (forall₂_updateFirst (fun e => .inl rfl) (fun e => .inr ⟨status, data, rfl⟩) _)
    rfl rfl ?_
  rw [updateFirst_filter (fun e linked => ?_) (fun _ _ => by simp)]
  · exact waiting
  · simp only [linkedToSlot, Bool.and_eq_true, decide_eq_true_eq] at linked
    simp [linked]

/-- A slot gives up its reply link, and the entry it links to is settled: the sequences of a list
are distinct, so no other entry is PENDING on the slot (R90, R91, R94). -/
theorem State.RepliesSound.settleSlot {s u : State} {i : SlotId} {c : Command}
    (h : s.RepliesSound) (fits : s.Capacities) (ports : u.ports = s.ports)
    (others : ∀ j ≠ i, u.slot j = s.slot j) (left : (u.slot i).replyLink? = none)
    (held : (s.slot i).replyLink? = if c.posted then none else some c) (status : ReplyStatus)
    (data : List BeatData) : (u.settleSlot i c status data).RepliesSound := by
  have port : ∀ p, u.port p = s.port p := fun p => by simp only [State.port, ports]
  cases posted : c.posted with
  | true =>
    rw [settleSlot_of_posted i status data posted]
    refine h.of_keeps (fun p => port p ▸ .refl _) fun j => ?_
    by_cases here : j = i
    · rw [here, left, held, posted]
      rfl
    · rw [others j here]
  | false =>
    obtain ⟨lists, agree⟩ := repliesSound_iff.1 h
    obtain ⟨run, -, -⟩ := lists c.port
    obtain ⟨capacities, -⟩ := fits
    obtain ⟨-, room, -⟩ := capacities c.port
    have link : (s.slot i).replyLink? = some c := by simpa [posted] using held
    simp only [State.settleSlot, posted, Bool.false_eq_true, if_false, State.settle]
    refine repliesSound_iff.2 ⟨fun p => ?_, fun p j q => ?_⟩
    · rw [withPort_port, port, port]
      split
      · exact (lists _).settle i c status data
      · exact lists p
    · have slots : (u.slot j).LinksTo p q
          ↔ (s.slot j).LinksTo p q ∧ ¬ (j = i ∧ c.port = p ∧ c.sequence = q) := by
        by_cases here : j = i
        · subst here
          simp [Slot.not_linksTo left, Slot.linksTo_of_some link]
        · simp [others j here, here]
      rw [withPort_slot, slots, ← agree, withPort_port]
      split
      · subst_vars
        rw [port, pends_beginDelivery, pends_settled (Port.sequences_nodup run room)]
        simp [eq_comm]
      · rename_i other
        simp [port, Ne.symm other]

/-! ### Arrivals and grants -/

theorem State.RepliesSound.arrive {s : State} (h : s.RepliesSound) (p : PortId) (r : Request) :
    (s.arrive p r).RepliesSound := by
  unfold State.arrive
  dsimp only
  split
  · exact (h.withPort (.appended rfl rfl (.inr ⟨rfl, rfl⟩))).record _
  · have answered : (s.withPort p fun port =>
        (port.appendReply r (.ready .refused [])).countRefusal).RepliesSound :=
      h.withPort (.appended rfl rfl (.inr ⟨rfl, rfl⟩))
    exact answered.of_same (by simp) (by simp)
  · have accepted : (s.withPort p fun port => port.accept r s.tickCount).RepliesSound := by
      refine h.withPort (.appended rfl rfl ?_)
      cases posts : (s.port p).posts r with
      | true => exact .inr ⟨rfl, by simp [Port.accept, queuedRecord, posts]⟩
      | false => exact .inl ⟨rfl, _, rfl, posts, rfl⟩
    exact accepted.of_same (by simp) (by simp)

/-- The first WAITING entry is that of the first request in the queue that is not posted (R90). -/
theorem Port.WaitingLinked.head {r : Port} (linked : r.WaitingLinked) {q : QueuedRequest}
    {rest : List QueuedRequest} (queue : r.queue = q :: rest) (notPosted : q.posted = false) :
    ∃ before e after, r.replies = before ++ e :: after ∧ (∀ x ∈ before, x.state ≠ .waiting)
      ∧ e.state = .waiting ∧ e.sequence = q.sequence
      ∧ (after.filter fun x => decide (x.state = .waiting)).map ReplyEntry.sequence
          = (rest.filter fun x => !x.posted).map QueuedRequest.sequence := by
  rw [WaitingLinked, queue, List.filter_cons_of_pos (by simp [notPosted]), List.map_cons,
    List.map_eq_cons_iff] at linked
  obtain ⟨e, others, found, sequence, waits⟩ := linked
  obtain ⟨before, after, replies, earlier, first, rfl⟩ := List.filter_eq_cons_iff.1 found
  exact ⟨before, e, after, replies, by simpa using earlier, by simpa using first, sequence, waits⟩

/-- The head of the queue leaves it, and its entry, if it has one, becomes PENDING where it stands
(R35, R93). -/
theorem Port.ListSound.granted {r : Port} (h : r.ListSound) {q : QueuedRequest}
    {rest : List QueuedRequest} (queue : r.queue = q :: rest) (i : SlotId) (course : Course) :
    (r.granted q rest i course).ListSound
      ∧ ∀ j n, Pends (r.granted q rest i course).replies j n
          ↔ Pends r.replies j n ∨ (q.posted = false ∧ j = i ∧ n = q.sequence) := by
  obtain ⟨run, delivery, waiting⟩ := h
  cases posted : q.posted with
  | true =>
    have replies : (r.granted q rest i course).replies = r.replies := by
      simp [Port.granted, QueuedRequest.granted, posted]
    refine ⟨⟨?_, ?_, ?_⟩, fun j n => by simp [replies]⟩
    · rw [sequencesRun_iff, replies]
      exact run
    · simpa only [DeliverySound, replies] using delivery
    · rw [WaitingLinked, replies, waiting, queue]
      simp [posted, Port.granted]
  | false =>
    obtain ⟨before, e, after, list, earlier, waits, sequence, others⟩ := waiting.head queue posted
    have replies : (r.granted q rest i course).replies
        = before ++ e.become (.pending i) :: after := by
      simp only [Port.granted, QueuedRequest.granted, posted, Bool.false_eq_true, if_false, list]
      rw [updateFirst_split]
      · rfl
      · intro x among
        simp [linkedToQueue, earlier x among]
      · simp [linkedToQueue, waits, sequence]
    refine ⟨⟨?_, ?_, ?_⟩, fun j n => ?_⟩
    · rw [sequencesRun_iff, list] at run
      rw [sequencesRun_iff, replies]
      simpa [ReplyEntry.become, Port.granted] using run
    · rw [DeliverySound, list] at delivery
      rw [DeliverySound, replies]
      cases before with
      | nil => simpa [ReplyEntry.become, EntryState.isReady] using delivery.2
      | cons x xs =>
        simp only [List.cons_append, List.head?_cons, List.tail_cons, List.mem_append,
          List.mem_cons] at delivery ⊢
        refine ⟨delivery.1, ?_⟩
        rintro y (old | rfl | old)
        · exact delivery.2 y (.inl old)
        · rfl
        · exact delivery.2 y (.inr (.inr old))
    · have none : before.filter (fun x => decide (x.state = .waiting)) = [] := by
        simpa using earlier
      rw [WaitingLinked, replies, List.filter_append, none]
      simpa [ReplyEntry.become, Port.granted] using others
    · rw [replies, list]
      simp only [pends_append, pends_cons, ReplyEntry.become, waits, sequence, reduceCtorEq,
        and_false, false_or, EntryState.pending.injEq, true_and]
      grind

theorem Slot.linksTo_granted (q : QueuedRequest) (p o : PortId) (n : Sequence) :
    (Slot.sending (q.command p) q.share 0 false).LinksTo o n
      ↔ q.posted = false ∧ o = p ∧ n = q.sequence := by
  cases posted : q.posted with
  | true => simp [LinksTo, replyLink?, QueuedRequest.command, posted]
  | false => simp [LinksTo, replyLink?, QueuedRequest.command, posted, @eq_comm _ o, @eq_comm _ n]

/-- The slot of a grant links to its entry, unless the request is posted (R59, R93). -/
theorem State.RepliesSound.grant {s : State} (h : s.RepliesSound) {p : PortId} {course : Course}
    {q : QueuedRequest} {rest : List QueuedRequest} {i : SlotId} (free : s.lowestFree = some i)
    (queue : (s.port p).queue = q :: rest) : (s.grant p course).RepliesSound := by
  rw [grant_eq free queue]
  refine State.RepliesSound.drainCheck (RepliesSound.of_same
    (s := (s.withPort p (Port.granted q rest i course)).withSlot i
      (.sending (q.command p) q.share 0 false)) ?_ (by simp) (by simp)) p
  obtain ⟨lists, agree⟩ := repliesSound_iff.1 h
  obtain ⟨list, pends⟩ := (lists p).granted queue i course
  have unlinked : ∀ o n, ¬ (s.slot i).LinksTo o n :=
    Slot.not_linksTo (by rw [slot_of_lowestFree free]; rfl)
  refine repliesSound_iff.2 ⟨fun o => ?_, fun o j n => ?_⟩
  · rw [withSlot_port, withPort_port]
    split
    · exact list
    · exact lists o
  · have slots : (((s.withPort p (Port.granted q rest i course)).withSlot i
          (.sending (q.command p) q.share 0 false)).slot j).LinksTo o n
        ↔ (s.slot j).LinksTo o n ∨ (q.posted = false ∧ j = i ∧ o = p ∧ n = q.sequence) := by
      rw [withSlot_slot]
      split
      · subst_vars
        simp [Slot.linksTo_granted, unlinked]
      · simp [*]
    rw [slots, ← agree, withSlot_port, withPort_port]
    split
    · subst_vars
      simp [pends]
    · simp [*]

/-! ### Completions and expiries -/

/-- A slot in ISSUED or RECEIVING links to an entry unless its command is posted (Table 21). -/
theorem State.HeldIn.replyLink {s : State} {i : SlotId} {c : Command} {state : ExpiryState}
    (held : s.HeldIn i c state) :
    (s.slot i).replyLink? = if c.posted then none else some c := by
  rcases held with ⟨-, d, slot⟩ | ⟨-, d, beats, slot⟩ <;> rw [slot] <;> rfl

/-- A slot in ISSUED or RECEIVING is freed, its entry settled. -/
theorem State.RepliesSound.freed {s : State} {i : SlotId} {c : Command} {state : ExpiryState}
    (h : s.RepliesSound) (fits : s.Capacities) (held : s.HeldIn i c state)
    (channel : CompletionChannel) (status : ReplyStatus) (data : List BeatData) :
    (((s.withSlot i .free).withChannel channel).settleSlot i c status data).RepliesSound :=
  h.settleSlot (u := (s.withSlot i .free).withChannel channel) fits rfl
    (fun j other => by simp [withSlot_slot_of_ne s _ other]) (by simp [Slot.replyLink?])
    held.replyLink status data

theorem State.RepliesSound.endCompletion {s : State} (h : s.RepliesSound) (fits : s.Capacities)
    (i : SlotId) : (s.endCompletion i).RepliesSound := by
  unfold State.endCompletion
  split
  · rename_i c d beats slot
    have held : s.HeldIn i c .receiving := .inr ⟨rfl, d, beats, slot⟩
    exact (h.freed fits held .awaitHeader .dataError []).record _
  · rename_i c slot
    have late : (s.withSlot i .free).RepliesSound := h.withSlot (by rw [slot]; rfl)
    exact RepliesSound.record (s := (s.withSlot i .free).withChannel .awaitHeader) late _
  · exact h
  · exact h
  · exact h

theorem State.RepliesSound.interrupt {s : State} (h : s.RepliesSound) (fits : s.Capacities) :
    s.interrupt.RepliesSound := by
  unfold State.interrupt
  split
  · exact h
  · exact h.endCompletion fits _
  · exact h.endCompletion fits _
  · exact h

theorem State.RepliesSound.issuedHeader {s : State} (h : s.RepliesSound) (fits : s.Capacities)
    {i : SlotId} {c : Command} {d : Deadline} (slot : s.slot i = .issued c d)
    (status : MemStatus) : (s.issuedHeader i c d status).RepliesSound := by
  have held : s.HeldIn i c .issued := .inl ⟨rfl, d, slot⟩
  have freed := h.freed fits held s.completion
  unfold State.issuedHeader
  split
  · exact (freed .dataError []).recordAll _
  · split
    · exact freed .ok []
    · exact RepliesSound.of_same (s := s.withSlot i (.receiving c d []))
        (h.withSlot (by rw [slot]; rfl)) rfl rfl

theorem State.RepliesSound.classifyHeader {s : State} (h : s.RepliesSound) (fits : s.Capacities)
    (i : SlotId) (kind : Kind) (status : MemStatus) :
    (s.classifyHeader i kind status).RepliesSound := by
  have stray : (s.strayHeader i kind status).RepliesSound :=
    h.of_same (by simp [State.strayHeader]) (by simp [State.strayHeader])
  unfold State.classifyHeader
  split
  · exact stray
  · exact stray
  · exact stray
  · rename_i c slot
    split
    · unfold State.lateHeader
      split
      · exact h
      · have late : (s.withSlot i .free).RepliesSound := h.withSlot (by rw [slot]; rfl)
        exact RepliesSound.record (s := (s.withSlot i .free).withChannel .awaitHeader) late _
    · exact stray
  · rename_i c d slot
    split
    · exact h.issuedHeader fits slot status
    · exact stray

theorem State.RepliesSound.dataBeat {s : State} (h : s.RepliesSound) (fits : s.Capacities)
    {i : SlotId} {c : Command} {d : Deadline} {beats : List BeatData}
    (slot : s.slot i = .receiving c d beats) (data : BeatData) (last : Bool) :
    (s.dataBeat i c d beats data last).RepliesSound := by
  have held : s.HeldIn i c .receiving := .inr ⟨rfl, d, beats, slot⟩
  have freed := h.freed fits held .awaitHeader
  have mismatch : (s.mismatch i c).RepliesSound := (freed .dataError []).record _
  unfold State.dataBeat
  repeat' split
  · exact (freed .ok (beats ++ [data])).takeDecision
  · exact mismatch.takeDecision
  · exact h.withSlot (by rw [slot]; rfl)
  · exact mismatch.takeDecision
  · exact h

/-- An expiry takes the reply link of its slot, and settles the entry (R118). -/
theorem State.RepliesSound.expireSlot {s : State} (h : s.RepliesSound) (fits : s.Capacities)
    (i : SlotId) : (s.expireSlot i).RepliesSound := by
  have expired : ∀ c x, s.HeldIn i c x → (s.expire i c x).RepliesSound := fun c x held => by
    have settled : ((s.orphan i).settleSlot i c .timeout []).RepliesSound :=
      h.settleSlot fits (by simp)
        (fun j other => by simp [orphan_of_held held, withSlot_slot_of_ne s _ other])
        (by simp [orphan_of_held held, Slot.replyLink?]) held.replyLink _ _
    exact ((settled.withPort (f := Port.countTimeout) (.of_same rfl rfl rfl)).recordAll
      _).takeDecision
  rcases s.expireSlot_cases i with same | ⟨c, d, slot, becomes⟩ | ⟨c, d, beats, slot, becomes⟩
  · rwa [same]
  · exact becomes ▸ expired c _ (.inl ⟨rfl, d, slot⟩)
  · exact becomes ▸ expired c _ (.inr ⟨rfl, d, beats, slot⟩)

/-- A countdown keeps every reply link (R117). -/
theorem Slot.replyLink_countDown (x : Slot) : x.countDown.replyLink? = x.replyLink? := by
  cases x <;> rfl

/-- A transfer end keeps the reply link, which an orphan mark has taken before (R69, Table 21). -/
theorem State.replyLink_transferred (s : State) (c : Command) (share : Option (List WriteBeat))
    (taken : Nat) (mark : Bool) :
    (s.transferred c mark).replyLink? = (Slot.sending c share taken mark).replyLink? := by
  cases mark <;> simp [State.transferred, Slot.replyLink?]

theorem State.RepliesSound.advanceTick {s : State} (h : s.RepliesSound) :
    s.advanceTick.RepliesSound :=
  h.of_keeps (fun p => by simpa [State.advanceTick_eq, State.port] using .refl _) fun i => by
    simp [State.advanceTick_eq, Slot.replyLink_countDown]

/-! ### Deliveries, the link, port control and resets -/

theorem State.RepliesSound.endDelivery {s : State} (h : s.RepliesSound) {p : PortId}
    (last : 0 < (s.port p).itemsLeft) : (s.endDelivery p).RepliesSound := by
  have ended : (s.withPort p fun r =>
      { r with replies := beginDelivery r.replies.tail }).RepliesSound := h.withPort (.ended last)
  exact (ended.drainCheck p).takeDecision

/-- Every slot is free and no entry is PENDING. -/
theorem State.repliesSound_of_free {t : State} (lists : ∀ p, (t.port p).ListSound)
    (settled : ∀ p i q, ¬ Pends (t.port p).replies i q) (free : ∀ i, t.slot i = .free) :
    t.RepliesSound :=
  repliesSound_iff.2 ⟨lists, fun p i q =>
    iff_of_false (settled p i q) (Slot.not_linksTo (by rw [free]; rfl) p q)⟩

/-- An entry at a link down: it was not PENDING and stays, or was and is settled (R104). -/
theorem State.linkResetEntry_cases {s : State} {p : PortId} (linked : s.PendingLinked p)
    {e : ReplyEntry} (listed : e ∈ (s.port p).replies) :
    ((∀ i, e.state ≠ .pending i) ∧ s.linkResetEntry p e = e)
    ∨ (e.state ≠ .waiting ∧ s.linkResetEntry p e = e.become (.ready .linkReset [])) := by
  by_cases waits : ∃ i, e.state = .pending i
  · obtain ⟨i, state⟩ := waits
    exact .inr ⟨by simp [state], linkResetEntry_of_pending state (linked e listed i state)⟩
  · have others : ∀ i, e.state ≠ .pending i := fun i state => waits ⟨i, state⟩
    exact .inl ⟨others, linkResetEntry_of_not_pending others⟩

/-- A link down leaves no entry PENDING, and every WAITING one (R104). -/
theorem State.linkResetPort_sound {s : State} {p : PortId} (linked : s.PendingLinked p)
    (h : (s.port p).ListSound) :
    (s.linkResetPort p).ListSound ∧ ∀ i q, ¬ Pends (s.linkResetPort p).replies i q := by
  have each : List.Forall₂ ReplyEntry.SettlesTo (s.port p).replies
      ((s.port p).replies.map (s.linkResetEntry p)) := by
    rw [List.forall₂_map_right_iff, List.forall₂_same]
    intro e listed
    rcases linkResetEntry_cases linked listed with ⟨-, same⟩ | ⟨-, reset⟩
    · exact .inl same
    · exact .inr ⟨_, _, reset⟩
  obtain ⟨-, -, waiting⟩ := id h
  refine ⟨h.settled each rfl rfl ?_, fun i q => ?_⟩
  · refine Eq.trans ?_ waiting
    rw [List.filter_map, List.map_map]
    have kept : (s.port p).replies.filter
          ((fun e => decide (e.state = .waiting)) ∘ s.linkResetEntry p)
        = (s.port p).replies.filter fun e => decide (e.state = .waiting) := by
      refine List.filter_congr fun e listed => ?_
      rcases linkResetEntry_cases linked listed with ⟨-, same⟩ | ⟨busy, reset⟩
      · simp [same]
      · simp [reset, busy, ReplyEntry.become]
    rw [kept]
    refine List.map_congr_left fun e listed => ?_
    rcases linkResetEntry_cases linked (List.mem_of_mem_filter listed) with ⟨-, same⟩ | ⟨-, reset⟩
    · simp [same]
    · simp [reset, ReplyEntry.become]
  · rw [linkResetPort, pends_beginDelivery]
    rintro ⟨_, among, -, pending⟩
    obtain ⟨e, listed, rfl⟩ := List.mem_map.1 among
    rcases linkResetEntry_cases linked listed with ⟨settled, same⟩ | ⟨-, reset⟩
    · exact settled i (same ▸ pending)
    · rw [reset] at pending
      cases pending

theorem State.RepliesSound.takeLinkDown {s : State} (h : s.RepliesSound) (cause : DownCause)
    (link : LinkState) : (s.takeLinkDown cause link).RepliesSound := by
  obtain ⟨ports, -⟩ := id h
  obtain ⟨lists, -⟩ := repliesSound_iff.1 h
  have port : ∀ p, (s.linkFreed link).port p = s.linkResetPort p := fun p => look_tabulate _ p
  have reset : ∀ p, (s.linkResetPort p).ListSound
      ∧ ∀ i q, ¬ Pends (s.linkResetPort p).replies i q := fun p => by
    obtain ⟨-, -, -, linked⟩ := ports p
    exact linkResetPort_sound linked (lists p)
  have freed : (s.linkFreed link).RepliesSound :=
    repliesSound_of_free (fun p => port p ▸ (reset p).1) (fun p => port p ▸ (reset p).2)
      fun i => look_tabulate _ i
  exact (freed.record _).recordAll _

/-- The assertion of a port's reset takes the reply links of its slots, and no other (R138). -/
theorem Slot.linksTo_portReset (p : PortId) (x : Slot) (o : PortId) (q : Sequence) :
    (x.portReset p).LinksTo o q ↔ x.LinksTo o q ∧ o ≠ p := by
  cases x with
  | free | orphaned c => simp [LinksTo, portReset, replyLink?]
  | sending c share taken mark =>
    by_cases own : c.port = p <;> simp [LinksTo, portReset, replyLink?, own] <;> grind
  | issued c d | receiving c d beats =>
    by_cases own : c.port = p <;> simp [LinksTo, portReset, replyLink?, own] <;> grind

theorem State.RepliesSound.resetPort {s : State} (h : s.RepliesSound) (p : PortId)
    (x : ReturnState) (report : Bool) : (s.resetPort p x report).RepliesSound := by
  obtain ⟨lists, agree⟩ := repliesSound_iff.1 h
  have port : ∀ o, (s.portEmptied p x report).port o
      = if o = p then (s.port p).reset x report else s.port o := fun o => by
    simpa only [State.port, State.portEmptied] using s.withPort_port p o (Port.reset x report)
  have emptied : (s.portEmptied p x report).RepliesSound := by
    refine repliesSound_iff.2 ⟨fun o => ?_, fun o i q => ?_⟩
    · rw [port]
      split
      · exact Port.listSound_of_empty rfl rfl
      · exact lists o
    · rw [port, portEmptied_slot, Slot.linksTo_portReset]
      split
      · subst_vars
        simp [Port.reset]
      · simp [*]
  rw [resetPort_eq]
  exact (emptied.recordAll _).takeDecision

/-- The release of a port reset finds no entry whose sequence the next one would have to follow
(R139, R140). -/
theorem State.RepliesSound.releasePort {s : State} (h : s.RepliesSound) {p : PortId}
    (x : ReturnState) (report : Bool) (queue : (s.port p).queue = [])
    (replies : (s.port p).replies = []) : (s.releasePort p x report).RepliesSound := by
  have released : (s.withPort p fun r =>
      { r with mode := x.mode, resetInput := false, nextSequence := 0 }).RepliesSound :=
    h.withPort ⟨fun _ => Port.listSound_of_empty queue replies, fun i q => Iff.rfl⟩
  unfold State.releasePort
  dsimp only
  split
  · exact released.record _
  · exact released

/-- Device reset and soft reset empty every list and free every slot (R87, R89). -/
theorem State.repliesSound_resetBlocks (s : State) (frame : MgmtFrame) :
    (s.resetBlocks frame).RepliesSound := by
  have port : ∀ p, (s.resetBlocks frame).port p = Port.afterReset (s.port p).resetInput :=
    fun p => by simp [State.resetBlocks, State.port]
  refine repliesSound_of_free (fun p => ?_) (fun p i q => ?_) fun i => ?_
  · rw [port]
    exact Port.listSound_of_empty rfl rfl
  · rw [port]
    exact pends_nil i q
  · simp [State.resetBlocks, State.slot, State.reset]

/-! ### Every step -/

theorem State.RepliesSound.withField {s : State} (h : s.RepliesSound) (v : Nat) (f : Field) :
    (s.withField v f).RepliesSound :=
  h.of_keeps (fun p => by rw [withField_port]; exact .of_same rfl rfl rfl) fun i => by simp

theorem State.RepliesSound.clearField {s : State} (h : s.RepliesSound) (f : Field) :
    (s.clearField f).RepliesSound := by
  cases f with
  | counter p f => exact h.withPort (.of_same rfl rfl rfl)
  | status f => cases f <;> exact h
  | _ => exact h

/-- A management command keeps the replies sound. -/
theorem Performed.repliesSound {s t : State} (e : Performed s t) (h : s.RepliesSound) :
    t.RepliesSound := by
  have withMode : ∀ p mode, (s.withMode p mode).RepliesSound := fun p mode =>
    h.withPort (.of_same rfl rfl rfl)
  cases e with
  | stored f v writable unlocked inRange =>
    unfold State.storeField
    split
    · exact (h.withField _ f).takeDecision
    · exact h.withField _ f
  | cleared f clearable => exact h.clearField f
  | enabled p mode => exact withMode p _
  | drained p mode => exact (withMode p _).drainCheck p
  | flushed p mode =>
    obtain ⟨lists, -⟩ := State.repliesSound_iff.1 h
    obtain ⟨-, -, linked⟩ := lists p
    exact ((h.withPort (.flushed linked)).recordAll _).drainCheck p
  | countersCleared p => exact h.withPort (.of_same rfl rfl rfl)
  | restarted up => exact h.takeLinkDown _ _
  | reset => exact s.repliesSound_resetBlocks _
  | _ => exact h

/-- Everything a command can do keeps the replies sound. -/
theorem Effect.repliesSound {s t : State} (e : Effect s t) (fits : s.Capacities)
    (still : s.StillPortsEmpty) (h : s.RepliesSound) : t.RepliesSound := by
  cases e with
  | tickEnded running =>
    have kept := State.expireAll_keeps (P := fun t => t.RepliesSound ∧ t.Capacities)
      (fun t i ⟨sound, fits⟩ => ⟨sound.expireSlot fits i, fits.expireSlot i⟩) s.expiryOrder
      s.advanceTick ⟨h.advanceTick, fits.counted.advanceFrame.takeDecision⟩
    exact kept.1
  | arrived p r takes => exact h.arrive p r
  | granted p course may named =>
    obtain ⟨i, q, rest, free, queue, -⟩ := State.grantable_of_decision may named
    exact h.takeDecision.grant free queue
  | itemTaken i c share taken mark running slot more => exact h.withSlot (by rw [slot]; rfl)
  | transferEnded i c share taken mark running slot last =>
    exact (h.withSlot (by rw [slot]; exact s.replyLink_transferred c share taken mark)).takeDecision
  | headerTaken i kind status running up =>
    exact ((h.interrupt fits).classifyHeader fits.interrupt i kind status).of_same (by simp)
      (by simp)
  | dataBeat i c d beats data last running up channel slot => exact h.dataBeat fits slot data last
  | discardEnded i running up channel => exact (h.endCompletion fits i).takeDecision
  | expired i running ends =>
    exact State.RepliesSound.expireSlot (s := s.reachTickEnd) h fits i
  | linkDown running up =>
    exact State.RepliesSound.takeLinkDown (s := { s with linkReady := false }) h _ _
  | replyItemTaken p running more => exact h.withPort (.takeItem (by omega))
  | deliveryEnded p running last => exact h.endDelivery (by omega)
  | resetLevel p level idle => exact h.withPort (.of_same rfl rfl rfl)
  | portReset p x report running mode => exact h.resetPort p x report
  | portReleased p x report running mode =>
    obtain ⟨queue, replies⟩ := still p (by simp [mode, PortMode.isStill])
    exact h.releasePort x report queue replies
  | resetReleased standing => exact s.repliesSound_resetBlocks _
  | managed t r running performed => exact performed.repliesSound h
  | _ =>
    exact h.of_same (by simp [State.strayBeat, State.takeLinkUp])
      (by simp [State.strayBeat, State.takeLinkUp])

/-- Settles O43, over the cases of what a step can do. -/
theorem repliesSoundKept : Obligations.RepliesSoundKept := by
  intro s t h fits still stepped
  rcases step_effect stepped with e | ⟨c, cs, -, e⟩
  · exact e.repliesSound fits still h
  · exact e.repliesSound (s := s.withPending cs) fits still h

end Sys2Proof.Machine
end

section
/-! SUPPORT and PROOFS. PORT_FLUSH by the state of the port, and the delivery of replies item by
item. -/

namespace Sys2Proof.Machine

/-! ### Port commands -/

theorem indexIn_eq_some {n : Nat} {b : Byte} {i : Fin n} (h : b.toNat = i.val) :
    indexIn n b = some i := by
  simp [indexIn, h]

/-- A port command that the port takes answers the port's state after it (R164). -/
theorem State.mgmtPort_of_some {s t : State} {p : PortId} {index : Byte}
    {act : PortId → Option State} (named : index.toNat = p.val) (taken : act p = some t) :
    s.mgmtPort index act = (t, ⟨.done, t.portCode p⟩) := by
  simp [State.mgmtPort, indexIn_eq_some named, taken]

/-- A port command that the port refuses changes nothing and answers the port's state (R164). -/
theorem State.mgmtPort_of_none {s : State} {p : PortId} {index : Byte}
    {act : PortId → Option State} (named : index.toNat = p.val) (refused : act p = none) :
    s.mgmtPort index act = (s, ⟨.notAllowed, s.portCode p⟩) := by
  simp [State.mgmtPort, indexIn_eq_some named, refused]

/-! ### PORT_FLUSH -/

theorem State.flushPort_of_moving {s : State} {p : PortId}
    (mode : (s.port p).mode = .active ∨ (s.port p).mode = .draining) :
    s.flushPort p = some (s.flushQueue p) := by
  rcases mode with mode | mode <;> simp [State.flushPort, mode]

theorem exec_portFlush_eq {s : State} (running : s.deviceReset = false) (index : Byte) :
    exec (.portFlush index) s
      = .next ((s.mgmtPort index s.flushPort).1.answers (s.mgmtPort index s.flushPort).2.code
          (s.mgmtPort index s.flushPort).2.value) :=
  congrArg _ (State.take_eq running (.portFlush index))

/-- A flush of a port whose WAITING entries are linked, with the entries it settles (R104, R134). -/
theorem State.flushQueue_eq {s : State} {p : PortId} (linked : (s.port p).WaitingLinked) :
    s.flushQueue p
      = ((s.withPort p fun r => { r with
            mode := .draining, queue := []
            replies := beginDelivery (r.replies.map ReplyEntry.aborted) }).recordAll
          (s.queueLosses p .flush)).drainCheck p := by
  rw [State.flushQueue, State.withPort, Port.flushed_eq linked]
  rfl

/-- Settles O46, by the state of the port. -/
theorem flushAbortsTheQueue : Obligations.FlushAbortsTheQueue := by
  intro s p index running named
  rw [exec_portFlush_eq running]
  refine ⟨fun mode linked => ?_, fun halted => ?_, fun x y inReset => ?_⟩
  · rw [State.mgmtPort_of_some named (State.flushPort_of_moving mode), State.flushQueue_eq linked,
      State.queueLosses_eq]
    rfl
  · have stands : s.flushPort p = some s := by simp [State.flushPort, halted]
    simp [State.mgmtPort_of_some named stands, State.portCode, halted, PortMode.code]
  · have refused : s.flushPort p = none := by simp [State.flushPort, inReset]
    simp [State.mgmtPort_of_none named refused, State.portCode, inReset, PortMode.code]

/-! ### The delivery of replies -/

/-- The items left of a DELIVERING head (R98). -/
theorem Port.itemsLeft_of_head {r : Port} {e : ReplyEntry} {es : List ReplyEntry}
    {status : ReplyStatus} {data : List BeatData} {taken : Nat} (replies : r.replies = e :: es)
    (state : e.state = .delivering status data taken) :
    r.itemsLeft = 1 + data.length - taken := by
  simp [itemsLeft, replies, state, replyItems]

/-- The item offered of a DELIVERING head: its header, then its beats (R98, Table 29). -/
theorem State.replyOffered_of_head {s : State} {p : PortId} {e : ReplyEntry}
    {es : List ReplyEntry} {status : ReplyStatus} {data : List BeatData} {taken : Nat}
    (running : s.deviceReset = false) (replies : (s.port p).replies = e :: es)
    (state : e.state = .delivering status data taken) :
    s.replyOffered p = if taken = 0 then some (.header e.tag e.kind status)
      else data[taken - 1]?.map fun d => .beat d (decide (taken = data.length)) := by
  simp [State.replyOffered, running, replies, state]

theorem exec_replyItemTaken_eq {s : State} {p : PortId} (running : s.deviceReset = false)
    (more : 2 ≤ (s.port p).itemsLeft) :
    exec (.replyItemTaken p) s = .next (s.withPort p Port.takeItem) := by
  show execReplyItemTaken p s = _
  simp [execReplyItemTaken, running, more]

theorem exec_deliveryEnd_eq {s : State} {p : PortId} (running : s.deviceReset = false)
    (last : (s.port p).itemsLeft = 1) : exec (.deliveryEnd p) s = .next (s.endDelivery p) := by
  show execDeliveryEnd p s = _
  simp [execDeliveryEnd, running, last]

theorem beginDelivery_of_ready {e : ReplyEntry} {status : ReplyStatus} {data : List BeatData}
    (ready : e.state = .ready status data) (rest : List ReplyEntry) :
    beginDelivery (e :: rest) = e.become (.delivering status data 0) :: rest := by
  simp only [beginDelivery, ready]
  rfl

/-- A head that is not READY begins no delivery (R97). -/
theorem beginDelivery_of_not_ready {l : List ReplyEntry}
    (h : ∀ e ∈ l.head?, e.state.isReady = false) : beginDelivery l = l := by
  cases l with
  | nil => rfl
  | cons e es =>
    cases state : e.state with
    | ready status data => simp [state, EntryState.isReady] at h
    | waiting | pending i | delivering status data taken => simp [beginDelivery, state]

/-- Settles O42: a DELIVERING head's items by their number, and `beginDelivery` by the head. -/
theorem repliesAreDeliveredInOrder : Obligations.RepliesAreDeliveredInOrder := by
  refine ⟨fun s p e rest status data taken running replies state => ⟨fun first => ?_,
    fun k inside next => ?_, fun more => ?_, fun last => ?_⟩,
    fun e rest status data ready => beginDelivery_of_ready ready rest,
    fun l => beginDelivery_of_not_ready⟩
  · rw [State.replyOffered_of_head running replies state, if_pos first]
  · rw [State.replyOffered_of_head running replies state, if_neg (by omega)]
    simp [next, inside]
  · have left := Port.itemsLeft_of_head replies state
    rw [exec_replyItemTaken_eq running (by omega), State.withPort,
      Port.takeItem_of_head replies state]
    rfl
  · have left := Port.itemsLeft_of_head replies state
    rw [exec_deliveryEnd_eq running (by omega), State.endDelivery, State.withPort, replies]
    rfl

end Sys2Proof.Machine
end

section
/-! SUPPORT and PROOFS. READ: the fields of every object by their codes, the values they hold, and
what a READ answers of them. -/

namespace Sys2Proof.Machine

/-! ### The answer of a READ -/

theorem exec_read_eq {s : State} (running : s.deviceReset = false) (object index code : Byte) :
    exec (.read object index code) s
      = .next (s.answers (s.mgmtRead object index code).2.code
          (s.mgmtRead object index code).2.value) := by
  have taken := State.take_eq running (.read object index code)
  rw [State.perform, State.mgmtRead_unchanged] at taken
  exact congrArg _ taken

theorem exec_read_of_field {s : State} {object index code : Byte} {o : ObjectRef} {f : Field}
    (running : s.deviceReset = false) (named : objectOf object index = some o)
    (has : fieldIn o code = some f) :
    exec (.read object index code) s = .next (s.answers .done (s.fieldValue f)) := by
  rw [exec_read_eq running]
  simp [State.mgmtRead, onField, named, has]

theorem exec_read_of_no_field {s : State} {object index code : Byte} {o : ObjectRef}
    (running : s.deviceReset = false) (named : objectOf object index = some o)
    (lacks : fieldIn o code = none) :
    exec (.read object index code) s = .next (s.answers .badField 0) := by
  rw [exec_read_eq running]
  simp [State.mgmtRead, onField, named, lacks]

theorem exec_read_of_no_object {s : State} {object index : Byte} (running : s.deviceReset = false)
    (unnamed : objectOf object index = none) (code : Byte) :
    exec (.read object index code) s = .next (s.answers .badObject 0) := by
  rw [exec_read_eq running]
  simp [State.mgmtRead, onField, unnamed]

/-! ### Objects by their codes -/

/-- A byte that is none of the first `n` is no index below `n`. -/
theorem indexIn_of_unlisted {n : Nat} {b : Byte} (h : ∀ k : Fin n, BitVec.ofNat 8 k.val ≠ b) :
    indexIn n b = none := by
  refine dif_neg fun below => h ⟨b.toNat, below⟩ ?_
  simp

theorem indexIn_eq_none {n : Nat} {b : Byte} : indexIn n b = none ↔ n ≤ b.toNat := by
  simp [indexIn]

/-- The number of indices of each object, in the order of the object codes (Table 55). -/
def objectSizes : List Nat := [1, 1, 4, 8, 8, 8, 8, 4, 1, 1]

/-- No object has this code at this index, where the index is past the object's last (Table 55). -/
theorem objectOf_eq_none {object index : Byte}
    (past : (objectSizes[object.toNat]?).getD 0 ≤ index.toNat) : objectOf object index = none := by
  unfold objectOf
  repeat' split
  all_goals simp only [Option.map_eq_none_iff, indexIn_eq_none]
  all_goals
    subst_vars
    exact past

/-! ### Fields by their codes -/

/-- The object has exactly these fields, each by its code (Tables 56 to 61). -/
structure ObjectRef.Lists (o : ObjectRef) (fields : List (Byte × Field)) : Prop where
  has : ∀ x ∈ fields, fieldIn o x.1 = some x.2
  lacks : ∀ code ∉ fields.map Prod.fst, fieldIn o code = none

/-- A READ answers these numbers by field code, and BAD_FIELD at every other code (R160, R161). -/
def State.Reads (s : State) (object index : Byte) (rows : List (Byte × Nat)) : Prop :=
  (∀ x ∈ rows, exec (.read object index x.1) s = .next (s.answers .done (BitVec.ofNat 32 x.2)))
  ∧ ∀ code ∉ rows.map Prod.fst, exec (.read object index code) s = .next (s.answers .badField 0)

/-- A field code with the number that its field holds. -/
def State.row (s : State) (x : Byte × Field) : Byte × Nat := (x.1, s.fieldNumber x.2)

/-- A READ of an object answers the numbers of the fields that the object lists. -/
theorem ObjectRef.Lists.reads {s : State} {o : ObjectRef} {fields : List (Byte × Field)}
    (h : o.Lists fields) (running : s.deviceReset = false) {object index : Byte}
    (named : objectOf object index = some o) {rows : List (Byte × Nat)}
    (values : rows = fields.map s.row) : s.Reads object index rows := by
  subst values
  refine ⟨fun x listed => ?_, fun code unlisted => ?_⟩
  · obtain ⟨y, among, rfl⟩ := List.mem_map.1 listed
    exact exec_read_of_field running named (h.has y among)
  · refine exec_read_of_no_field running named (h.lacks code ?_)
    simpa [State.row, Function.comp_def] using unlisted

theorem ObjectRef.lists_identity :
    ObjectRef.identity.Lists
      ((List.finRange 12).map fun k => (BitVec.ofNat 8 k.val, .identity k)) := by
  refine ⟨fun x listed => ?_, fun code unlisted => ?_⟩
  · obtain ⟨k, -, rfl⟩ := List.mem_map.1 listed
    revert k
    decide
  · simp [fieldIn, indexIn_of_unlisted (n := 12) (b := code) (by simpa using unlisted)]

theorem ObjectRef.lists_global :
    ObjectRef.global.Lists
      ([(0x00, .global .threshold), (0x01, .global .deadline), (0x02, .global .defaultAction),
          (0x03, .global .linkState), (0x04, .global .orphanedCount)]
        ++ (List.finRange 13).map fun k => (0x10 + BitVec.ofNat 8 k.val, .global (.enable k))) := by
  refine ⟨fun x listed => ?_, fun code unlisted => ?_⟩
  · rcases List.mem_append.1 listed with setting | enable
    · revert x
      decide
    · obtain ⟨k, -, rfl⟩ := List.mem_map.1 enable
      revert k
      decide
  · simp only [List.map_append, List.mem_append, not_or] at unlisted
    obtain ⟨settings, enables⟩ := unlisted
    have none : indexIn 13 (code - 0x10) = none := by
      refine indexIn_of_unlisted fun k same => enables ?_
      refine List.mem_map.2 ⟨_, List.mem_map.2 ⟨k, List.mem_finRange k, rfl⟩, ?_⟩
      simp [same]
    simp_all [fieldIn, globalField]

theorem ObjectRef.lists_port (p : PortId) :
    (ObjectRef.port p).Lists
      [(0x00, .port p .weight), (0x01, .port p .startLevel), (0x02, .port p .ageLimit),
        (0x03, .port p .inFlightLimit), (0x04, .port p .postedWrites), (0x08, .port p .portState),
        (0x09, .port p .queueDepth), (0x0A, .port p .replyLength), (0x0B, .port p .inFlightCount),
        (0x0C, .port p .nextSequence), (0x0D, .port p .headSequence)] := by
  refine ⟨by simp [fieldIn, portField], fun code unlisted => ?_⟩
  simp_all [fieldIn, portField]

theorem ObjectRef.lists_counters (p : PortId) :
    (ObjectRef.counters p).Lists
      [(0x00, .counter p .windowBeats), (0x01, .counter p .bidBeats), (0x02, .counter p .refused),
        (0x03, .counter p .timeouts)] := by
  refine ⟨by simp [fieldIn, counterField], fun code unlisted => ?_⟩
  simp_all [fieldIn, counterField]

theorem ObjectRef.lists_staged (w : WindowId) :
    (ObjectRef.staged w).Lists
      ([(0x08, .stagedWindow w .owner), (0x09, .stagedWindow w .start),
          (0x0A, .stagedWindow w .length), (0x0B, .stagedWindow w .guard),
          (0x0C, .stagedWindow w .budget), (0x0D, .stagedWindow w .lend)]
        ++ if w = 0 then [(0x00, .stagedSchedule .period), (0x01, .stagedSchedule .prescaler),
          (0x02, .stagedSchedule .count)] else []) := by
  by_cases first : w = 0
  · refine ⟨by simp [fieldIn, windowField, scheduleField, first], fun code unlisted => ?_⟩
    simp_all [fieldIn, windowField, scheduleField]
  · refine ⟨by simp [fieldIn, windowField, first], fun code unlisted => ?_⟩
    simp_all [fieldIn, windowField]

theorem ObjectRef.lists_active (w : WindowId) :
    (ObjectRef.active w).Lists
      ([(0x08, .activeWindow w .owner), (0x09, .activeWindow w .start),
          (0x0A, .activeWindow w .length), (0x0B, .activeWindow w .guard),
          (0x0C, .activeWindow w .budget), (0x0D, .activeWindow w .lend)]
        ++ if w = 0 then [(0x00, .activeSchedule .period), (0x01, .activeSchedule .prescaler),
          (0x02, .activeSchedule .count), (0x10, .timer .commitPending),
          (0x11, .timer .frameNumber), (0x12, .timer .frameTick), (0x13, .timer .tickCount)] else []) := by
  by_cases first : w = 0
  · refine ⟨by simp [fieldIn, windowField, scheduleField, timerField, first],
      fun code unlisted => ?_⟩
    simp_all [fieldIn, windowField, scheduleField, timerField]
  · refine ⟨by simp [fieldIn, windowField, first], fun code unlisted => ?_⟩
    simp_all [fieldIn, windowField]

theorem ObjectRef.lists_usage (w : WindowId) :
    (ObjectRef.usage w).Lists
      [(0x00, .usage w .charged), (0x01, .usage w .lent), (0x02, .usage w .spent)] := by
  refine ⟨by simp [fieldIn, usageField], fun code unlisted => ?_⟩
  simp_all [fieldIn, usageField]

theorem ObjectRef.lists_rule (k : RuleId) :
    (ObjectRef.rule k).Lists
      [(0x00, .rule k .enabled), (0x01, .rule k .firstHigh), (0x02, .rule k .firstLow),
        (0x03, .rule k .lastHigh), (0x04, .rule k .lastLow), (0x05, .rule k .portMask),
        (0x06, .rule k .kinds), (0x07, .rule k .action)] := by
  refine ⟨by simp [fieldIn, ruleField], fun code unlisted => ?_⟩
  simp_all [fieldIn, ruleField]

theorem ObjectRef.lists_eventStatus :
    ObjectRef.eventStatus.Lists [(0x00, .status .queueLength), (0x01, .status .dropCount)] := by
  refine ⟨by simp [fieldIn, statusField], fun code unlisted => ?_⟩
  simp_all [fieldIn, statusField]

/-! ### The numbers of the fields -/

theorem flagCode_eq (b : Bool) : flagCode b = if b then 1 else 0 := by
  cases b <;> rfl

/-- The high part of a block number, as a number (R161). -/
theorem Block.toNat_high (b : Block) : b.high.toNat = b.toNat / 2 ^ 32 := by
  have below := b.isLt
  simp only [Block.high, BitVec.extractLsb'_toNat, Nat.shiftRight_eq_div_pow]
  omega

/-- The low part of a block number, as a number (R161). -/
theorem Block.toNat_low (b : Block) : b.low.toNat = b.toNat % 2 ^ 32 := by
  simp [Block.low, BitVec.extractLsb'_toNat]

/-- The in-flight count of a port, counted by any test that finds its slots in flight (R67). -/
theorem State.inFlightCount_eq {s : State} {p : PortId} {test : SlotId → Bool}
    (h : ∀ i, test i = (s.slot i).inFlightFor p) :
    s.inFlightCount p = (List.finRange 32).countP test := by
  rw [State.inFlightCount, toList_eq_map_look, List.countP_map]
  exact congrArg (List.countP · _) (funext fun i => (h i).symm)

/-- The orphaned slot count, counted by any test that finds the orphans (R120). -/
theorem State.orphanedCount_eq {s : State} {test : SlotId → Bool}
    (h : ∀ i, test i = (s.slot i).isOrphaned) :
    s.orphanedCount = (List.finRange 32).countP test := by
  rw [State.orphanedCount, toList_eq_map_look, List.countP_map]
  exact congrArg (List.countP · _) (funext fun i => (h i).symm)

/-! ### Every object -/

/-- Settles O52, object by object: the fields it lists, and the number of each. -/
theorem readAnswersByTheTables : Obligations.ReadAnswersByTheTables := by
  intro s running reads yes schedule window
  have flag : ∀ b, yes b = flagCode b := fun b => (flagCode_eq b).symm
  have windowRows : ∀ x : Window, window x
      = [(0x08, x.field .owner), (0x09, x.field .start), (0x0A, x.field .length),
        (0x0B, x.field .guard), (0x0C, x.field .budget), (0x0D, x.field .lend)] := fun x => by
    simp [window, Window.field, flag]
  have scheduleRows : ∀ x : Schedule, schedule x
      = [(0x00, x.field .period), (0x01, x.field .prescaler), (0x02, x.field .count)] :=
    fun x => rfl
  refine ⟨ObjectRef.lists_identity.reads running rfl ?_,
    ObjectRef.lists_global.reads running rfl ?_,
    fun p => ⟨(ObjectRef.lists_port p).reads running (by revert p; decide) ?_,
      (ObjectRef.lists_counters p).reads running (by revert p; decide) rfl⟩,
    fun w => ⟨(ObjectRef.lists_staged w).reads running (by revert w; decide) ?_,
      (ObjectRef.lists_active w).reads running (by revert w; decide) ?_,
      (ObjectRef.lists_usage w).reads running (by revert w; decide) ?_,
      (ObjectRef.lists_rule w).reads running (by revert w; decide) ?_⟩,
    ObjectRef.lists_eventStatus.reads running rfl rfl,
    fun object index field past => exec_read_of_no_object running (objectOf_eq_none past) field⟩
  · rfl
  · simp only [List.map_append, List.map_map, List.map_cons, List.map_nil]
    refine congrArg₂ (· ++ ·) ?_ (List.map_congr_left fun k _ => ?_)
    · simp only [State.row, State.fieldNumber, State.globalField, List.cons.injEq, Prod.mk.injEq,
        true_and, and_true]
      refine ⟨?_, ?_, ?_⟩
      · cases s.defaultAction <;> rfl
      · cases s.link <;> rfl
      · exact (State.orphanedCount_eq fun i => by cases s.slot i <;> rfl).symm
    · simp [State.row, State.fieldNumber, State.globalField, flag]
  · simp only [State.row, State.fieldNumber, State.portField, flag, List.map_cons, List.map_nil,
      List.cons.injEq, Prod.mk.injEq, true_and, and_true]
    refine ⟨?_, ?_, ?_, ?_⟩
    · cases (s.port p).settings.startLevel <;> rfl
    · cases (s.port p).mode <;> rfl
    · exact (State.inFlightCount_eq fun i => by cases s.slot i <;> rfl).symm
    · unfold Port.headSequence
      cases (s.port p).replies <;> rfl
  · rw [windowRows, scheduleRows]
    split <;> rfl
  · rw [windowRows, scheduleRows, flag]
    split <;> rfl
  · rw [flag]
    rfl
  · simp only [State.row, State.fieldNumber, Rule.field, flag, Block.toNat_high, Block.toNat_low,
      List.map_cons, List.map_nil, List.cons.injEq, Prod.mk.injEq, true_and, and_true]
    refine ⟨?_, ?_⟩
    · cases (look s.rules w).kinds <;> rfl
    · cases (look s.rules w).action <;> rfl

end Sys2Proof.Machine
end

section
/-! PROOFS. Access rules: the kinds a rule covers, and the requests it covers. -/

namespace Sys2Proof.Machine

/-- The kinds of Table 31 cover the request's kind when they are that kind or BOTH (R107). -/
theorem RuleKinds.covers_iff {kinds : RuleKinds} {kind : Kind} :
    kinds.covers kind = true ↔
      kinds = .both ∨ (kinds = .read ∧ kind = .read) ∨ (kinds = .write ∧ kind = .write) := by
  cases kinds with
  | both => simp [RuleKinds.covers]
  | read => cases kind <;> simp [RuleKinds.covers]
  | write => cases kind <;> simp [RuleKinds.covers]

/-- The test of R107 part by part, with the kinds left to `RuleKinds.covers_iff`. -/
theorem Rule.covers_iff {r : Rule} {p : PortId} {kind : Kind} {block : Block} :
    r.covers p kind block = true ↔
      r.enabled = true ∧ r.firstBlock ≤ block ∧ block ≤ r.lastBlock
        ∧ r.portMask.getLsbD p.val = true ∧ r.kinds.covers kind = true := by
  simp only [Rule.covers, Bool.and_eq_true, decide_eq_true_eq, and_assoc]

/-- Settles O19: the parts of the rule's test, with blocks compared as numbers and the kinds by
cases. -/
theorem ruleCoverage : Obligations.RuleCoverage := by
  intro r p kind block
  rw [Rule.covers_iff, RuleKinds.covers_iff, BitVec.le_def, BitVec.le_def]

end Sys2Proof.Machine
end

section
/-! SUPPORT and PROOFS. The deadlines at a tick end: what the expiries of several slots make of each
slot and of the timeout counters; and the rises and falls of link ready and the restarts that take
no link down. -/

namespace Sys2Proof.Machine

/-! ### The expiries of a tick end, slot by slot and counter by counter -/

/-- The command of a slot in ISSUED or RECEIVING, where a deadline count runs (R117). -/
def Slot.supervised? : Slot → Option Command
  | .issued c _ => some c
  | .receiving c _ _ => some c
  | .free => none
  | .sending _ _ _ _ => none
  | .orphaned _ => none

/-- A slot after its expiry (R118). -/
def Slot.expired (x : Slot) : Slot := x.supervised?.elim x .orphaned

/-- The expiry of the slot is a timeout of port `p` (R130). -/
def Slot.timesOutFor (p : PortId) (x : Slot) : Bool :=
  x.supervised?.any fun c => decide (c.port = p)

/-- The counters after `n` more timeouts (R130). -/
def Counters.addTimeouts (k : Counters) (n : Nat) : Counters :=
  { k with timeouts := k.timeouts + BitVec.ofNat 32 n }

@[simp] theorem Counters.addTimeouts_zero (k : Counters) : k.addTimeouts 0 = k := by
  simp [Counters.addTimeouts]

@[simp] theorem Counters.addTimeouts_addTimeouts (k : Counters) (m n : Nat) :
    (k.addTimeouts m).addTimeouts n = k.addTimeouts (m + n) := by
  simp [Counters.addTimeouts, BitVec.ofNat_add, BitVec.add_assoc]

/-- A slot in which a deadline count runs is held in ISSUED or in RECEIVING (R117). -/
theorem State.heldIn_of_supervised {s : State} {i : SlotId} {c : Command}
    (held : (s.slot i).supervised? = some c) : ∃ state, s.HeldIn i c state := by
  cases slot : s.slot i with
  | issued c' d =>
    obtain rfl : c' = c := by simpa [slot, Slot.supervised?] using held
    exact ⟨.issued, .inl ⟨rfl, d, slot⟩⟩
  | receiving c' d beats =>
    obtain rfl : c' = c := by simpa [slot, Slot.supervised?] using held
    exact ⟨.receiving, .inr ⟨rfl, d, beats, slot⟩⟩
  | free | sending c' share taken mark | orphaned c' => simp [slot, Slot.supervised?] at held

/-- A slot without a running deadline does not expire (R118). -/
theorem State.expireSlot_of_unsupervised {s : State} {i : SlotId}
    (idle : (s.slot i).supervised? = none) : s.expireSlot i = s := by
  cases slot : s.slot i with
  | free | sending c share taken mark | orphaned c => simp [State.expireSlot, slot]
  | issued c d | receiving c d beats => simp [slot, Slot.supervised?] at idle

/-- The settling of an entry leaves the counters of every port alone (R96). -/
@[simp] theorem State.settleSlot_counters (s : State) (i : SlotId) (c : Command)
    (status : ReplyStatus) (data : List BeatData) (p : PortId) :
    ((s.settleSlot i c status data).port p).counters = (s.port p).counters := by
  unfold State.settleSlot
  split
  · rfl
  · rw [State.settle, State.withPort_port]
    split
    · subst_vars; rfl
    · rfl

/-- One expiry orphans its slot and leaves every other slot alone (R118). -/
theorem State.expireSlot_slot (s : State) (i j : SlotId) :
    (s.expireSlot i).slot j = if j = i then (s.slot i).expired else s.slot j := by
  cases held : (s.slot i).supervised? with
  | none =>
    rw [State.expireSlot_of_unsupervised held, Slot.expired, held]
    split <;> simp_all
  | some c =>
    obtain ⟨state, held'⟩ := State.heldIn_of_supervised held
    rw [State.expireSlot_of_held held', State.expire, State.orphan_of_held held',
      Slot.expired, held]
    simp [State.withSlot_slot]

/-- One expiry counts one timeout, at the port of its command (R130). -/
theorem State.expireSlot_counters (s : State) (i : SlotId) (p : PortId) :
    ((s.expireSlot i).port p).counters
      = (s.port p).counters.addTimeouts ((s.slot i).timesOutFor p).toNat := by
  cases held : (s.slot i).supervised? with
  | none => simp [State.expireSlot_of_unsupervised held, Slot.timesOutFor, held]
  | some c =>
    obtain ⟨state, held'⟩ := State.heldIn_of_supervised held
    rw [State.expireSlot_of_held held', State.expire]
    by_cases own : c.port = p
    · subst own
      simp [Slot.timesOutFor, held, Port.countTimeout, Counters.addTimeouts]
    · have other : p ≠ c.port := fun same => own same.symm
      simp [State.withPort_port_of_ne _ _ other, Slot.timesOutFor, held, own]

/-- The expiries of several slots orphan those and leave every other slot alone (R119). -/
theorem State.expireAll_slot (order : List SlotId) (s : State) (once : order.Nodup) (j : SlotId) :
    (s.expireAll order).slot j = if j ∈ order then (s.slot j).expired else s.slot j := by
  induction order generalizing s with
  | nil => simp
  | cons i is ih =>
    obtain ⟨notLater, once'⟩ := List.nodup_cons.1 once
    rw [State.expireAll_cons, ih _ once', State.expireSlot_slot]
    by_cases same : j = i
    · subst same
      simp [notLater]
    · simp [same]

/-- The expiries of several slots count a timeout for each, at the ports of their commands (R119,
R130). -/
theorem State.expireAll_counters (order : List SlotId) (s : State) (once : order.Nodup)
    (p : PortId) :
    ((s.expireAll order).port p).counters
      = (s.port p).counters.addTimeouts (order.countP fun i => (s.slot i).timesOutFor p) := by
  induction order generalizing s with
  | nil => simp
  | cons i is ih =>
    obtain ⟨notLater, once'⟩ := List.nodup_cons.1 once
    have later : (is.countP fun j => ((s.expireSlot i).slot j).timesOutFor p)
        = is.countP fun j => (s.slot j).timesOutFor p :=
      List.countP_congr fun j listed => by
        rw [State.expireSlot_slot, if_neg (ne_of_mem_of_not_mem listed notLater)]
    rw [State.expireAll_cons, ih _ once', State.expireSlot_counters, later,
      Counters.addTimeouts_addTimeouts, List.countP_cons]
    cases (s.slot i).timesOutFor p <;> simp [Nat.add_comm]

/-! ### A tick end -/

/-- The order of the expiries lists the slots whose count ends (R117). -/
theorem State.mem_expiryOrder {s : State} {i : SlotId} :
    i ∈ s.expiryOrder ↔ (s.slot i).expires = true := by
  obtain ⟨-, listed⟩ := s.expiryOrder_expiring
  rw [listed, Slot.expires_iff]

/-- A slot after a tick end: the countdown, and the expiry of a count that ends (R117, R119). -/
theorem State.tickEnd_slot (s : State) (i : SlotId) :
    (s.advanceTick.expireAll s.expiryOrder).slot i
      = if (s.slot i).expires then (s.slot i).countDown.expired else (s.slot i).countDown := by
  obtain ⟨once, -⟩ := s.expiryOrder_expiring
  have advanced : s.advanceTick.slot i = (s.slot i).countDown := by simp [State.advanceTick_eq]
  simp only [State.expireAll_slot _ _ once, advanced, State.mem_expiryOrder]

/-- The countdown keeps the command of a slot (R117). -/
theorem Slot.timesOutFor_countDown (p : PortId) (x : Slot) :
    x.countDown.timesOutFor p = x.timesOutFor p := by
  cases x <;> rfl

/-- The counters after a tick end: a timeout for each command of the port whose count ends (R119,
R130). -/
theorem State.tickEnd_counters (s : State) (p : PortId) :
    ((s.advanceTick.expireAll s.expiryOrder).port p).counters
      = (s.port p).counters.addTimeouts
          ((List.finRange 32).countP fun i => (s.slot i).timesOutFor p && (s.slot i).expires) := by
  obtain ⟨once, -⟩ := s.expiryOrder_expiring
  have advanced (i : SlotId) : (s.advanceTick.slot i).timesOutFor p = (s.slot i).timesOutFor p := by
    simp [State.advanceTick_eq, Slot.timesOutFor_countDown]
  have ports : s.advanceTick.port p = s.port p := by simp [State.advanceTick_eq]
  rw [State.expireAll_counters _ _ once, ports, State.expiryOrder, (sortByRank_perm _ _).countP_eq,
    List.countP_filter]
  simp only [advanced]

/-- The slots that time out for a port are those of its commands with a count of 1 (R117, R130). -/
theorem Slot.timesOutFor_and_expires (p : PortId) (x : Slot) :
    (x.timesOutFor p && x.expires)
      = match x with
        | .issued c (.ticks 1) => decide (c.port = p)
        | .receiving c (.ticks 1) _ => decide (c.port = p)
        | _ => false := by
  split
  · simp [Slot.timesOutFor, Slot.supervised?, Slot.expires, Deadline.ends]
  · simp [Slot.timesOutFor, Slot.supervised?, Slot.expires, Deadline.ends]
  · rename_i notIssued notReceiving
    have lasts : x.expires = false := by
      refine Bool.eq_false_iff.2 fun expires => ?_
      rcases (Slot.expires_iff x).1 expires with ⟨c, rfl⟩ | ⟨c, beats, rfl⟩
      · exact notIssued c rfl
      · exact notReceiving c beats rfl
    rw [lasts, Bool.and_false]

/-- Settles O9: slot by slot from `tickEnd_slot`, and the counters from `tickEnd_counters`. -/
theorem tickEndCountsDeadlines : Obligations.TickEndCountsDeadlines := by
  intro s running
  have lasts {i : SlotId} {x : Slot} (slot : s.slot i = x) (stays : x.expires = false) :
      (s.advanceTick.expireAll s.expiryOrder).slot i = x.countDown := by
    simp [State.tickEnd_slot, slot, stays]
  have ends {i : SlotId} {x : Slot} (slot : s.slot i = x) (done : x.expires = true) :
      (s.advanceTick.expireAll s.expiryOrder).slot i = x.countDown.expired := by
    simp [State.tickEnd_slot, slot, done]
  refine ⟨s.advanceTick.expireAll s.expiryOrder, exec_tickEnd_eq running,
    fun i c n slot => lasts slot rfl, fun i c slot => ends slot rfl,
    fun i c n b slot => lasts slot rfl, fun i c b slot => ends slot rfl,
    fun i c slot => (lasts slot rfl).trans slot.symm,
    fun i c b slot => (lasts slot rfl).trans slot.symm, fun i idle => ?_, fun p => ?_⟩
  · cases slot : s.slot i with
    | free | sending c share taken mark | orphaned c => exact lasts slot rfl
    | issued c d | receiving c d beats =>
      simp [slot, Slot.isFree, Slot.isSending, Slot.isOrphaned] at idle
  · simp only [State.tickEnd_counters, Slot.timesOutFor_and_expires]
    rfl

/-! ### The link without a link down -/

/-- Link ready that falls while the link is not UP only sets the input low (R121, R122, log 3). -/
theorem State.linkReadyFalls_of_not_up {s : State} (down : s.link ≠ .up) :
    s.linkReadyFalls = { s with linkReady := false } := by
  cases link : s.link with
  | up => exact absurd link down
  | down | restarting => simp [State.linkReadyFalls, link]

/-- Link ready that rises while the link is not UP brings the link up (R124). -/
theorem State.linkReadyRises_of_low {s : State} (running : s.deviceReset = false)
    (down : s.link ≠ .up) (low : s.linkReady = false) : s.linkReadyRises = s.takeLinkUp := by
  cases link : s.link with
  | up => exact absurd link down
  | down | restarting => simp [State.linkReadyRises, running, low, link]

/-- Link ready that is high already does not rise (log 3). -/
theorem State.linkReadyRises_of_high {s : State} (high : s.linkReady = true) :
    s.linkReadyRises = s := if_pos high

/-- A restart while the link is not UP takes no link down (R125). -/
theorem State.restartLink_of_not_up {s : State} (down : s.link ≠ .up) :
    s.restartLink = { s with link := .restarting } := by
  cases link : s.link with
  | up => exact absurd link down
  | down => simp [State.restartLink, link]
  | restarting =>
    simp only [State.restartLink, link]
    rw [← link]

/-- Settles O40: the fall, the rise and the restart, each by the states it finds the link in. -/
theorem linkRisesFallsAndRestarts : Obligations.LinkRisesFallsAndRestarts := by
  intro s running
  refine ⟨fun down => ⟨?_, ?_⟩, fun down low => ?_, fun high => ?_, fun down => ?_⟩
  · exact congrArg Host.Outcome.next (State.linkReadyFalls_of_not_up down)
  · exact congrArg Host.Outcome.next (State.linkReadyFalls_of_not_up down)
  · exact congrArg Host.Outcome.next (State.linkReadyRises_of_low running down low)
  · exact congrArg Host.Outcome.next (State.linkReadyRises_of_high high)
  · show Host.Outcome.next (s.take .linkRestart) = _
    rw [State.take_eq running]
    simp only [State.perform, State.mgmtLinkRestart, State.restartLink_of_not_up down]
    rfl

end Sys2Proof.Machine
end

section
/-! SUPPORT and PROOFS. PORT_ENABLE and PORT_DRAIN by the state of the port, the two outcomes of the
drain check, and the release of a port reset. -/

namespace Sys2Proof.Machine

/-! ### The answer of a port command -/

section
variable {s t : State} {p : PortId} {index : Byte} {m : MgmtCommand} {act : PortId → Option State}
  {mode : PortMode}

/-- A port command that the port takes answers DONE and the code of the port's state after it
(R164, Table 60). -/
theorem State.take_of_taken (running : s.deviceReset = false) (named : index.toNat = p.val)
    (performs : s.perform m = s.mgmtPort index act) (taken : act p = some t)
    (after : (t.port p).mode = mode) : s.take m = t.answers .done (BitVec.ofNat 32 mode.code) := by
  rw [State.take_eq running, performs, State.mgmtPort_of_some named taken, State.portCode, after]

/-- A port command that the port refuses answers NOT_ALLOWED and the code of the port's state
(R164, Table 60). -/
theorem State.take_of_refused (running : s.deviceReset = false) (named : index.toNat = p.val)
    (performs : s.perform m = s.mgmtPort index act) (refused : act p = none)
    (held : (s.port p).mode = mode) :
    s.take m = s.answers .notAllowed (BitVec.ofNat 32 mode.code) := by
  rw [State.take_eq running, performs, State.mgmtPort_of_none named refused, State.portCode, held]

end

/-! ### PORT_ENABLE and PORT_DRAIN by the state of the port -/

@[simp] theorem State.withMode_mode (s : State) (p : PortId) (mode : PortMode) :
    ((s.withMode p mode).port p).mode = mode := by
  simp [State.withMode]

section
variable {s : State} {p : PortId}

theorem State.enablePort_of_active (mode : (s.port p).mode = .active) :
    s.enablePort p = some s := by
  simp [State.enablePort, mode]

/-- A DRAINING or HALTED port becomes ACTIVE (R132). -/
theorem State.enablePort_of_stopped
    (mode : (s.port p).mode = .draining ∨ (s.port p).mode = .halted) :
    s.enablePort p = some (s.withMode p .active) := by
  rcases mode with mode | mode <;> simp [State.enablePort, mode]

theorem State.enablePort_of_inReset {x : ReturnState} {report : Bool}
    (mode : (s.port p).mode = .inReset x report) : s.enablePort p = none := by
  simp [State.enablePort, mode]

/-- An ACTIVE port becomes DRAINING, and the drain check follows at once (R133, R135). -/
theorem State.drainPort_of_active (mode : (s.port p).mode = .active) :
    s.drainPort p = some ((s.withMode p .draining).drainCheck p) := by
  simp [State.drainPort, mode]

theorem State.drainPort_of_stopped
    (mode : (s.port p).mode = .draining ∨ (s.port p).mode = .halted) :
    s.drainPort p = some s := by
  rcases mode with mode | mode <;> simp [State.drainPort, mode]

theorem State.drainPort_of_inReset {x : ReturnState} {report : Bool}
    (mode : (s.port p).mode = .inReset x report) : s.drainPort p = none := by
  simp [State.drainPort, mode]

end

/-- Settles O45: each state of the port by its answer, and the drain check by its condition. -/
theorem enableAndDrainByPortState : Obligations.EnableAndDrainByPortState := by
  intro s p index running named
  refine ⟨fun active => ⟨?_, ?_⟩, fun draining => ⟨?_, ?_⟩, fun halted => ⟨?_, ?_⟩,
    fun x report inReset => ⟨?_, ?_⟩, fun drained => if_pos drained, fun busy => if_neg busy⟩
  · exact congrArg Host.Outcome.next
      (State.take_of_taken running named rfl (State.enablePort_of_active active) active)
  · exact congrArg Host.Outcome.next
      (State.take_of_taken running named rfl (State.drainPort_of_active active) rfl)
  · exact congrArg Host.Outcome.next
      (State.take_of_taken running named rfl (State.enablePort_of_stopped (.inl draining))
        (s.withMode_mode p _))
  · exact congrArg Host.Outcome.next
      (State.take_of_taken running named rfl (State.drainPort_of_stopped (.inl draining)) draining)
  · exact congrArg Host.Outcome.next
      (State.take_of_taken running named rfl (State.enablePort_of_stopped (.inr halted))
        (s.withMode_mode p _))
  · exact congrArg Host.Outcome.next
      (State.take_of_taken running named rfl (State.drainPort_of_stopped (.inr halted)) halted)
  · exact congrArg Host.Outcome.next
      (State.take_of_refused running named rfl (State.enablePort_of_inReset inReset) inReset)
  · exact congrArg Host.Outcome.next
      (State.take_of_refused running named rfl (State.drainPort_of_inReset inReset) inReset)

/-! ### The release of a port reset -/

theorem ReturnState.mode_eq (x : ReturnState) :
    x.mode = if x = .active then .active else .halted := by
  cases x <;> rfl

/-- The release of a port IN_RESET goes by the return state and the drain report mark kept
(R140). -/
theorem exec_portResetRelease_eq {s : State} {p : PortId} {x : ReturnState} {report : Bool}
    (running : s.deviceReset = false) (mode : (s.port p).mode = .inReset x report) :
    exec (.portResetRelease p) s = .next (s.releasePort p x report) := by
  show execPortResetRelease p s = _
  simp [execPortResetRelease, running, mode]

/-- Settles O48, by the drain report mark kept. -/
theorem portResetReleaseReturns : Obligations.PortResetReleaseReturns := by
  intro s p x report running mode
  dsimp only
  rw [exec_portResetRelease_eq running mode, ← ReturnState.mode_eq]
  constructor
  · rintro rfl
    rfl
  · rintro rfl
    rfl

end Sys2Proof.Machine
end

section
/-! SUPPORT and PROOFS. READ_AND_CLEAR and CLEAR_COUNTERS: the field cleared reads 0, every other
field stands, and nothing else of the part changes. -/

namespace Sys2Proof.Machine

/-! ### The field cleared, and every other field -/

theorem Counters.field_cleared_same (c : Counters) (f : CounterField) :
    (c.cleared f).field f = 0 := by
  cases f <;> rfl

theorem Counters.field_cleared_of_ne (c : Counters) {f g : CounterField} (other : g ≠ f) :
    (c.cleared f).field g = c.field g := by
  cases f <;> cases g <;> simp_all [cleared, field]

/-- A field cleared holds 0 (R162). -/
theorem State.fieldNumber_clearField_same (s : State) {f : Field} (clearable : f.clearable = true) :
    (s.clearField f).fieldNumber f = 0 := by
  cases f with
  | counter p f => simp [clearField, fieldNumber, Counters.field_cleared_same]
  | status f =>
    cases f with
    | dropCount => rfl
    | queueLength => cases clearable
  | _ => cases clearable

/-- No field of PORT shows a counter (Table 58). -/
theorem State.portField_withCounters (s : State) (p o : PortId) (c : Counters) (g : PortField) :
    (s.withPort p fun r => { r with counters := c }).portField o g = s.portField o g := by
  by_cases same : o = p
  · subst same
    cases g <;> simp [portField, Port.headSequence]
  · have port := s.withPort_port_of_ne (fun r => { r with counters := c }) same
    cases g <;> simp [portField, port]

/-- A field that is not cleared holds what it held (R162). -/
theorem State.fieldNumber_clearField_of_ne (s : State) {f g : Field} (other : g ≠ f) :
    (s.clearField f).fieldNumber g = s.fieldNumber g := by
  cases f with
  | counter p f =>
    cases g with
    | port o g => exact s.portField_withCounters p o _ g
    | counter o g =>
      simp only [clearField, fieldNumber, withPort_port]
      split
      · subst_vars
        exact Counters.field_cleared_of_ne _ fun same => other (congrArg _ same)
      · rfl
    | status g => cases g <;> rfl
    | _ => rfl
  | status f =>
    cases f with
    | queueLength => rfl
    | dropCount =>
      cases g with
      | status g =>
        cases g with
        | queueLength => rfl
        | dropCount => exact absurd rfl other
      | _ => rfl
  | _ => rfl

/-- A READ_AND_CLEAR stores into the ports and the drop count only. -/
theorem State.clearField_frame (s : State) (f : Field) :
    s.clearField f
      = { s with ports := (s.clearField f).ports, dropCount := (s.clearField f).dropCount } := by
  cases f with
  | status f => cases f <;> rfl
  | _ => rfl

/-- A READ_AND_CLEAR changes nothing of a port but its counters. -/
theorem State.clearField_port (s : State) (f : Field) (p : PortId) :
    (s.clearField f).port p
      = { s.port p with counters := ((s.clearField f).port p).counters } := by
  cases f with
  | counter o f =>
    simp only [clearField, withPort_port]
    split
    · subst_vars
      rfl
    · rfl
  | status f => cases f <;> rfl
  | _ => rfl

/-! ### The answers -/

section
variable {s : State} (running : s.deviceReset = false)
include running

/-- READ_AND_CLEAR of a field that exists, by check 3 of R160. -/
theorem exec_readAndClear_eq {object index field : Byte} {o : ObjectRef} {f : Field}
    (named : objectOf object index = some o) (has : fieldIn o field = some f) :
    exec (.readAndClear object index field) s
      = .next (if f.clearable then (s.clearField f).answers .done (s.fieldValue f)
          else s.answers .readOnly (s.fieldValue f)) := by
  have taken := State.take_eq running (.readAndClear object index field)
  simp only [State.perform, State.mgmtReadAndClear, onField, named, has] at taken
  refine congrArg Host.Outcome.next (taken.trans ?_)
  cases f.clearable <;> rfl

/-- CLEAR_COUNTERS of a port that exists (R156, R164). -/
theorem exec_clearCounters_eq {p : PortId} {index : Byte} (named : index.toNat = p.val) :
    exec (.clearCounters index) s
      = .next ((s.withPort p fun r => { r with counters := Counters.zero }).answers .done 0) := by
  have taken := State.take_eq running (.clearCounters index)
  simp only [State.perform, State.mgmtClearCounters, indexIn_eq_some named] at taken
  exact congrArg Host.Outcome.next taken

end

/-- Settles O55: the state with the field cleared is the one answered, and CLEAR_COUNTERS by its
equation. -/
theorem countersAreReadAndCleared : Obligations.CountersAreReadAndCleared := by
  intro s running
  refine ⟨fun object index field o f named has => ⟨fun readOnly => ?_, fun clearable => ?_⟩,
    fun p index named => exec_clearCounters_eq running named⟩
  · simp [exec_readAndClear_eq running named has, readOnly]
  · refine ⟨s.clearField f, ?_, ?_, fun g other => ?_, s.clearField_frame f, s.clearField_port f⟩
    · simp [exec_readAndClear_eq running named has, clearable]
    · exact congrArg _ (s.fieldNumber_clearField_same clearable)
    · exact congrArg _ (s.fieldNumber_clearField_of_ne other)

end Sys2Proof.Machine
end

section
/-! SUPPORT and PROOFS. Event records: offering one at each boundary, POP_EVENT, and the fields of
the popped record holder. -/

namespace Sys2Proof.Machine

/-! ### Offering a record -/

/-- Settles O49, by the enable of the kind, the room in the queue and the drop count. -/
theorem recordsJoinOrAreDropped : Obligations.RecordsJoinOrAreDropped := by
  intro s o
  refine ⟨s.record_of_disabled o, s.record_of_room o, fun enabled full below => ?_,
    fun enabled full reached => ?_, s.recordAll_cons o, s.recordAll_nil⟩
  · have counted : min Config.dropLimit (s.dropCount + 1) = s.dropCount + 1 :=
      Nat.min_eq_right below
    rw [s.record_of_full o enabled (Nat.not_lt.2 full), counted]
  · have stays : min Config.dropLimit (s.dropCount + 1) = s.dropCount := by
      rw [reached]
      rfl
    rw [s.record_of_full o enabled (Nat.not_lt.2 full), stays]

/-! ### POP_EVENT and ALERT -/

theorem exec_popEvent_eq {s : State} (running : s.deviceReset = false) :
    exec .popEvent s
      = .next (s.mgmtPopEvent.1.answers s.mgmtPopEvent.2.code s.mgmtPopEvent.2.value) :=
  congrArg Host.Outcome.next (State.take_eq running .popEvent)

/-- ALERT follows the event queue (R150). -/
theorem State.alert_iff (s : State) : s.alert = true ↔ s.events ≠ [] := by
  simp [State.alert]

/-- Settles O50, by the event queue empty or not. -/
theorem popMovesTheOldestRecord : Obligations.PopMovesTheOldestRecord := by
  intro s running
  rw [exec_popEvent_eq running]
  refine ⟨fun empty => ?_, fun r rest queue => ?_, s.alert_iff⟩
  · simp [State.mgmtPopEvent, empty]
  · simp [State.mgmtPopEvent, queue]

/-! ### The popped record holder -/

/-- The field codes of EVENT_HOLD are 0 to 12 (Table 63). -/
theorem heldField_eq_none {code : Byte} : heldField code = none ↔ 13 ≤ code.toNat := by
  simp only [heldField, ite_eq_iff, reduceCtorEq, and_false, false_or, and_true]
  bv_omega

theorem exec_read_of_held {s : State} (running : s.deviceReset = false) {code : Byte}
    {f : HeldField} (named : heldField code = some f) {number : Nat}
    (holds : s.heldField f = number) :
    exec (.read 0x09 0 code) s = .next (s.answers .done (BitVec.ofNat 32 number)) := by
  subst holds
  exact exec_read_of_field (o := .eventHold) (f := .held f) running rfl (by simp [fieldIn, named])

/-- The block number an occurrence shows, 0 where it has none (R152). -/
def Occasion.blockNumber (o : Occasion) : Nat := orZero (o.request?.map fun x => x.1.toNat)

theorem EventRecord.field_blockHigh (r : EventRecord) :
    r.field .blockHigh = r.occasion.blockNumber / 2 ^ 32 := by
  unfold field Occasion.blockNumber
  cases r.occasion.request? with
  | none => rfl
  | some x => exact Block.toNat_high x.1

theorem EventRecord.field_blockLow (r : EventRecord) :
    r.field .blockLow = r.occasion.blockNumber % 2 ^ 32 := by
  unfold field Occasion.blockNumber
  cases r.occasion.request? with
  | none => rfl
  | some x => exact Block.toNat_low x.1

/-- The numbers that EVENT_HOLD shows of an occurrence: kind, presence, port, slot, window, block,
sequence, status or cause, and rule index (Tables 40, 62 and 63). -/
def Occasion.numbers (o : Occasion) : Nat × Nat × Nat × Nat × Nat × Nat × Nat × Nat × Nat :=
  (o.kindCode.val, o.presence, orZero (o.port?.map Fin.val), orZero (o.slot?.map Fin.val),
    orZero (o.window?.map Fin.val), o.blockNumber, orZero (o.request?.map fun x => x.2.toNat),
    orZero o.status?, orZero (o.rule?.map Fin.val))

/-- Settles O53: the numbers of each kind of occurrence are those of Tables 40 and 62, and each code
of Table 63 reads one of them. -/
theorem heldRecordIsReadByField : Obligations.HeldRecordIsReadByField := by
  intro s running reads posted cause status shown
  have shown_eq : ∀ o, shown o = o.numbers := fun o => by
    cases o with
    | ruleHit p b q kind refused k => cases kind <;> cases refused <;> rfl
    | timeout p i b q state => cases state <;> rfl
    | lateCompletion p i b q x => cases x <;> rfl
    | strayHeader p i x => cases p <;> cases x <;> rfl
    | postedWriteFailed p i b q x => cases i <;> cases x <;> rfl
    | portHalted p x => cases x <;> rfl
    | linkDown x => cases x <;> rfl
    | _ => rfl
  refine ⟨fun empty code below => ?_, fun r held => ?_, fun code past => ?_⟩
  · obtain ⟨f, named⟩ := Option.ne_none_iff_exists'.1
      (mt heldField_eq_none.1 (Nat.not_le.2 below))
    exact exec_read_of_held running named (by simp [State.heldField, empty])
  · have shows : ∀ {code f number}, heldField code = some f → r.field f = number →
        reads code number := fun named holds =>
      exec_read_of_held running named (by simpa [State.heldField, held] using holds)
    simp only [shown_eq, Occasion.numbers]
    exact ⟨shows rfl rfl, shows rfl rfl, shows rfl rfl, shows rfl rfl, shows rfl rfl, shows rfl rfl,
      shows rfl rfl, shows rfl rfl, shows rfl r.field_blockHigh, shows rfl r.field_blockLow,
      shows rfl rfl, shows rfl rfl, shows rfl rfl⟩
  · exact exec_read_of_no_field (o := .eventHold) running rfl
      (by simp [fieldIn, heldField_eq_none.2 past])

end Sys2Proof.Machine
end

section
/-! SUPPORT. The management frame is no operand of a command: what a command does and answers does
not depend on the frame that carried it. -/

namespace Sys2Proof.Machine

/-! ### The operations that a management command calls -/

/-- The operation does the same whatever the management frame is, and leaves the frame alone. -/
def FrameBlind (op : State → State) : Prop :=
  ∀ s frame, op (s.withFrame frame) = (op s).withFrame frame

theorem FrameBlind.andThen {f g : State → State} (hf : FrameBlind f) (hg : FrameBlind g) :
    FrameBlind fun s => g (f s) := fun s frame =>
  (congrArg g (hf s frame)).trans (hg (f s) frame)

theorem State.record_frameBlind (o : Occasion) : FrameBlind (·.record o) := fun s frame =>
  s.record_withFrame frame o

theorem State.recordAll_frameBlind (os : List Occasion) : FrameBlind (·.recordAll os) :=
  fun s frame => s.recordAll_withFrame frame os

theorem State.markSpent_frameBlind (w : WindowId) : FrameBlind (·.markSpent w) := fun s frame => by
  unfold markSpent
  refine Eq.trans ?_ (apply_ite (withFrame · frame) _ _ _).symm
  exact congrArg (ite _ · _)
    (record_withFrame (s.withOccurrence w fun o => { o with spent := true }) frame
      (.budgetSpent (s.active.window w).owner w))

theorem State.drainCheck_frameBlind (p : PortId) : FrameBlind (·.drainCheck p) := fun s frame => by
  unfold drainCheck
  refine Eq.trans ?_ (apply_ite (withFrame · frame) _ _ _).symm
  exact congrArg (ite _ · _)
    (record_withFrame (s.withPort p fun r => { r with mode := .halted }) frame
      (.portHalted p .drained))

theorem State.takeDecision_frameBlind : FrameBlind takeDecision := fun s frame => by
  have may : (s.withFrame frame).mayDecide = s.mayDecide := rfl
  have short : (s.withFrame frame).shortWindow = s.shortWindow := rfl
  unfold takeDecision
  rw [may, short]
  split
  · split
    · exact markSpent_frameBlind _ s frame
    · rfl
  · rfl

theorem State.flushQueue_frameBlind (p : PortId) : FrameBlind (·.flushQueue p) := fun s =>
  (recordAll_frameBlind (s.queueLosses p .flush)).andThen (drainCheck_frameBlind p)
    (s.withPort p Port.flushed)

theorem State.takeLinkDown_frameBlind (cause : DownCause) (link : LinkState) :
    FrameBlind (·.takeLinkDown cause link) := fun s =>
  (record_frameBlind (.linkDown cause)).andThen (recordAll_frameBlind (s.slotLosses .linkDown))
    { s with
      slots := tabulate fun _ => Slot.free
      ports := tabulate fun p => s.linkResetPort p
      completion := .awaitHeader
      link := link }

theorem State.restartLink_frameBlind : FrameBlind restartLink := fun s frame => by
  have link : (s.withFrame frame).link = s.link := rfl
  unfold restartLink
  rw [link]
  split
  · exact takeLinkDown_frameBlind _ _ s frame
  · rfl
  · rfl

theorem State.withField_frameBlind (v : Nat) (f : Field) : FrameBlind (·.withField v f) := by
  intro s frame
  cases f with
  | global f => cases f <;> rfl
  | _ => rfl

theorem State.storeField_frameBlind (f : Field) (value : Word32) :
    FrameBlind (·.storeField f value) := fun s frame => by
  unfold storeField
  split
  · exact (withField_frameBlind _ f).andThen takeDecision_frameBlind s frame
  · exact withField_frameBlind _ f s frame

theorem State.clearField_frameBlind (f : Field) : FrameBlind (·.clearField f) := by
  intro s frame
  cases f with
  | status f => cases f <;> rfl
  | _ => rfl

/-! ### The management commands -/

/-- The command does and answers the same whatever the management frame is, and leaves the frame
alone. -/
def CommandFrameBlind (act : State → State × Result) : Prop :=
  ∀ s frame, act (s.withFrame frame) = ((act s).1.withFrame frame, (act s).2)

theorem onField_frameBlind (object index field : Byte) {act : Field → State → State × Result}
    (blind : ∀ f, CommandFrameBlind (act f)) :
    CommandFrameBlind fun s => onField object index field s (act · s) := fun s frame => by
  unfold onField
  split
  · rfl
  · split
    · rfl
    · exact blind _ s frame

/-- No field shows the management frame (Tables 56 to 63). -/
theorem State.fieldValue_withFrame (s : State) (frame : MgmtFrame) (f : Field) :
    (s.withFrame frame).fieldValue f = s.fieldValue f := rfl

theorem State.writeTo_frameBlind (value : Word32) (f : Field) :
    CommandFrameBlind (·.writeTo value f) := fun s frame => by
  have stored : (s.withFrame frame).storeField f value = (s.storeField f value).withFrame frame :=
    storeField_frameBlind f value s frame
  have written : (s.withFrame frame).withField value.toNat f
      = (s.withField value.toNat f).withFrame frame := withField_frameBlind _ f s frame
  have pending : (s.withFrame frame).commitPending = s.commitPending := rfl
  unfold writeTo
  simp only [stored, written, pending, fieldValue_withFrame]
  repeat' split
  all_goals rfl

theorem State.mgmtReadAndClear_frameBlind (object index field : Byte) :
    CommandFrameBlind (·.mgmtReadAndClear object index field) := by
  refine onField_frameBlind object index field
    (act := fun f s => if f.clearable then (s.clearField f, ⟨.done, s.fieldValue f⟩)
      else (s, ⟨.readOnly, s.fieldValue f⟩)) fun f s frame => ?_
  have cleared := clearField_frameBlind f s frame
  split
  · exact congrArg (·, _) cleared
  · rfl

/-- A port command acts or is refused whatever the frame, where its operation does (R164). -/
theorem State.mgmtPort_frameBlind (index : Byte) {act : State → PortId → Option State}
    (blind : ∀ s frame p, act (s.withFrame frame) p = (act s p).map (withFrame · frame)) :
    CommandFrameBlind fun s => s.mgmtPort index (act s) := fun s frame => by
  unfold mgmtPort
  cases indexIn 4 index with
  | none => rfl
  | some p =>
    simp only [blind]
    cases act s p <;> rfl

theorem State.enablePort_withFrame (s : State) (frame : MgmtFrame) (p : PortId) :
    (s.withFrame frame).enablePort p = (s.enablePort p).map (withFrame · frame) := by
  have mode : ((s.withFrame frame).port p).mode = (s.port p).mode := rfl
  unfold enablePort
  rw [mode]
  cases (s.port p).mode <;> rfl

theorem State.drainPort_withFrame (s : State) (frame : MgmtFrame) (p : PortId) :
    (s.withFrame frame).drainPort p = (s.drainPort p).map (withFrame · frame) := by
  have mode : ((s.withFrame frame).port p).mode = (s.port p).mode := rfl
  unfold drainPort
  rw [mode]
  cases (s.port p).mode with
  | active => exact congrArg some (drainCheck_frameBlind p (s.withMode p .draining) frame)
  | _ => rfl

theorem State.flushPort_withFrame (s : State) (frame : MgmtFrame) (p : PortId) :
    (s.withFrame frame).flushPort p = (s.flushPort p).map (withFrame · frame) := by
  have mode : ((s.withFrame frame).port p).mode = (s.port p).mode := rfl
  unfold flushPort
  rw [mode]
  cases (s.port p).mode with
  | active | draining => exact congrArg some (flushQueue_frameBlind p s frame)
  | _ => rfl

theorem State.mgmtCommit_frameBlind : CommandFrameBlind mgmtCommit := fun s frame => by
  have pending : (s.withFrame frame).commitPending = s.commitPending := rfl
  have staged : (s.withFrame frame).staged = s.staged := rfl
  unfold mgmtCommit
  rw [pending, staged]
  repeat' split
  all_goals rfl

theorem State.mgmtClearCounters_frameBlind (index : Byte) :
    CommandFrameBlind (·.mgmtClearCounters index) := fun s frame => by
  unfold mgmtClearCounters
  split <;> rfl

theorem State.mgmtPopEvent_frameBlind : CommandFrameBlind mgmtPopEvent := fun s frame => by
  have events : (s.withFrame frame).events = s.events := rfl
  unfold mgmtPopEvent
  rw [events]
  split <;> rfl

theorem State.mgmtLinkRestart_frameBlind : CommandFrameBlind mgmtLinkRestart := fun s frame => by
  unfold mgmtLinkRestart
  rw [restartLink_frameBlind s frame]
  rfl

/-- SOFT_RESET alone reads the frame, and leaves it (R167). -/
theorem State.mgmtSoftReset_frameBlind : CommandFrameBlind mgmtSoftReset := fun s frame => by
  unfold mgmtSoftReset
  rw [resetBlocks_eq, resetBlocks_eq]
  rfl

/-- What a management command does and answers does not depend on the frame that carried it. -/
theorem State.perform_frameBlind (m : MgmtCommand) : CommandFrameBlind (·.perform m) := by
  cases m with
  | read o i f =>
    exact onField_frameBlind o i f (act := fun f s => (s, ⟨.done, s.fieldValue f⟩)) fun _ _ _ => rfl
  | write o i f v => exact onField_frameBlind o i f fun f => writeTo_frameBlind v f
  | readAndClear o i f => exact mgmtReadAndClear_frameBlind o i f
  | commit => exact mgmtCommit_frameBlind
  | portEnable i => exact mgmtPort_frameBlind i enablePort_withFrame
  | portDrain i => exact mgmtPort_frameBlind i drainPort_withFrame
  | portFlush i => exact mgmtPort_frameBlind i flushPort_withFrame
  | clearCounters i => exact mgmtClearCounters_frameBlind i
  | popEvent => exact mgmtPopEvent_frameBlind
  | linkRestart => exact mgmtLinkRestart_frameBlind
  | softReset => exact mgmtSoftReset_frameBlind
  | noOperation | cancel | unknown code => exact fun _ _ => rfl

/-- The taking of a command outside device reset overwrites the frame. -/
theorem State.take_withFrame {s : State} (running : s.deviceReset = false) (frame : MgmtFrame)
    (m : MgmtCommand) : (s.withFrame frame).take m = s.take m := by
  have performed := perform_frameBlind m s frame
  rw [take_eq running, take_eq (s := s.withFrame frame) running]
  simp only [performed]
  rfl

end Sys2Proof.Machine
end

section
/-! SUPPORT and PROOFS. The management frame: words and their bits, the frame of each command, the
commands that only answer, the frame edge by edge, a whole frame clocked in, and the answer line. -/

namespace Sys2Proof

/-! ### A word and its bits -/

/-- The leading `n` bits of a word read back as the number they spell. -/
theorem foldl_leading_bits (w : FrameWord) (n : Nat) (h : n ≤ 64) :
    ((List.range n).map fun k => w.getMsbD k).foldl (fun m b => 2 * m + b.toNat) 0
      = w.toNat / 2 ^ (64 - n) := by
  induction n with
  | zero => simp [Nat.div_eq_of_lt w.isLt]
  | succ n ih =>
    have bit : w.getMsbD n = w.toNat.testBit (63 - n) := by
      simp [BitVec.getMsbD, BitVec.getLsbD, show n < 64 by omega]
    have power : 2 ^ (64 - n) = 2 ^ (63 - n) * 2 := by
      rw [← pow_succ, show 63 - n + 1 = 64 - n by omega]
    simp only [List.range_succ, List.map_append, List.map_cons, List.map_nil, List.foldl_append,
      List.foldl_cons, List.foldl_nil, ih (by omega), bit, Nat.toNat_testBit, power,
      ← Nat.div_div_eq_div_mul, show 64 - (n + 1) = 63 - n by omega]
    omega

theorem wordOfBits_bitsOfWord (w : FrameWord) : wordOfBits (bitsOfWord w) = w := by
  unfold wordOfBits bitsOfWord
  rw [foldl_leading_bits w 64 le_rfl]
  simp

theorem bitsOfWord_eq_append (w : FrameWord) :
    bitsOfWord w = ((List.range 63).map fun k => w.getMsbD k) ++ [w.getMsbD 63] := by
  simp [bitsOfWord, List.range_succ (n := 63)]

/-! ### Frames of commands -/

section
variable (code object index field : Byte) (value : Word32)

/-- Bits of a frame past the value are bits of the four bytes before it (Table 52). -/
theorem extractLsb'_frameOf {start : Nat} (past : 32 ≤ start) :
    (frameOf code object index field value).extractLsb' start 8
      = (code ++ object ++ index ++ field).extractLsb' (start - 32) 8 :=
  BitVec.extractLsb'_append_eq_of_le past

@[simp] theorem frameByte_frameOf :
    frameByte (frameOf code object index field value) 0 = code
    ∧ frameByte (frameOf code object index field value) 1 = object
    ∧ frameByte (frameOf code object index field value) 2 = index
    ∧ frameByte (frameOf code object index field value) 3 = field := by
  simp only [frameByte]
  refine ⟨?_, ?_, ?_, ?_⟩
  · rw [extractLsb'_frameOf _ _ _ _ _ (by decide), BitVec.extractLsb'_append_eq_of_le (by decide),
      BitVec.extractLsb'_append_eq_of_le (by decide)]
    exact BitVec.extractLsb'_append_eq_left
  · rw [extractLsb'_frameOf _ _ _ _ _ (by decide), BitVec.extractLsb'_append_eq_of_le (by decide)]
    exact (BitVec.extractLsb'_append_eq_of_le (by decide)).trans BitVec.extractLsb'_append_eq_right
  · rw [extractLsb'_frameOf _ _ _ _ _ (by decide), BitVec.extractLsb'_append_eq_of_le (by decide)]
    exact BitVec.extractLsb'_append_eq_right
  · rw [extractLsb'_frameOf _ _ _ _ _ (by decide)]
    exact BitVec.extractLsb'_append_eq_right

@[simp] theorem frameValue_frameOf :
    frameValue (frameOf code object index field value) = value :=
  BitVec.extractLsb'_append_eq_right

end

/-- A code that names no command decodes to none (R165). -/
theorem decodeFrame_of_unknownCode {w : FrameWord} (unknown : unknownCode (frameByte w 0) = true) :
    decodeFrame w = .unknown (frameByte w 0) := by
  have unlisted : frameByte w 0 ∉ commandCodes := of_decide_eq_true unknown
  simp only [commandCodes, List.mem_cons, List.not_mem_nil, or_false, not_or] at unlisted
  simp only [decodeFrame, unlisted, if_false]

/-- Settles O59: each command's code chooses its row, and its operands are the bytes read. -/
theorem frameCarriesItsCommand : Obligations.FrameCarriesItsCommand := by
  intro m carried
  cases m with
  | unknown code =>
    have byte : frameByte (encodeFrame (.unknown code)) 0 = code := by simp [encodeFrame]
    rw [decodeFrame_of_unknownCode (by rw [byte]; exact carried), byte]
  | _ => simp [encodeFrame, decodeFrame]

end Sys2Proof

namespace Sys2Proof.Machine

/-! ### The taking of a command -/

/-- The row that stands for a management command takes it (log 6). -/
theorem exec_toInstr (m : MgmtCommand) (s : State) : exec m.toInstr s = .next (s.take m) := by
  cases m <;> rfl

/-- A management command that changes nothing only answers. -/
theorem exec_toInstr_of_unchanged {s : State} (running : s.deviceReset = false) {m : MgmtCommand}
    {r : Result} (performs : s.perform m = (s, r)) :
    exec m.toInstr s = .next (s.answers r.code r.value) := by
  rw [exec_toInstr, State.take_eq running, performs]

/-- A port command whose index names no port is refused (R164). -/
theorem State.mgmtPort_of_no_port (s : State) {index : Byte} (past : 4 ≤ index.toNat)
    (act : PortId → Option State) : s.mgmtPort index act = (s, ⟨.badObject, 0⟩) := by
  simp only [mgmtPort, indexIn_eq_none.2 past]

theorem State.mgmtClearCounters_of_no_port (s : State) {index : Byte} (past : 4 ≤ index.toNat) :
    s.mgmtClearCounters index = (s, ⟨.badObject, 0⟩) := by
  simp only [mgmtClearCounters, indexIn_eq_none.2 past]

/-- Settles O56: none of these commands changes the state, and each only answers. -/
theorem emptyCommandsChangeNothing : Obligations.EmptyCommandsChangeNothing := by
  intro s code index running
  refine ⟨exec_toInstr_of_unchanged (m := .noOperation) running rfl,
    exec_toInstr_of_unchanged (m := .unknown code) running rfl, fun past c listed => ?_⟩
  simp only [List.mem_cons, List.not_mem_nil, or_false] at listed
  rcases listed with rfl | rfl | rfl | rfl
  · exact exec_toInstr_of_unchanged (m := .portEnable index) running (s.mgmtPort_of_no_port past _)
  · exact exec_toInstr_of_unchanged (m := .portDrain index) running (s.mgmtPort_of_no_port past _)
  · exact exec_toInstr_of_unchanged (m := .portFlush index) running (s.mgmtPort_of_no_port past _)
  · exact exec_toInstr_of_unchanged (m := .clearCounters index) running
      (s.mgmtClearCounters_of_no_port past)

/-! ### The frame, edge by edge -/

section
variable {s : State} (running : s.deviceReset = false) (bit : Bool)
include running

theorem exec_chipSelectFall_eq : exec .chipSelectFall s = .next (s.withFrame (.command [])) :=
  if_neg (by simp [running])

theorem exec_chipSelectRise_eq : exec .chipSelectRise s = .next (s.withFrame .unselected) :=
  if_neg (by simp [running])

/-- A bit in COMMAND is sampled (R157). -/
theorem exec_spiClock_of_command {bits : List Bool} (frame : s.frame = .command bits) :
    exec (.spiClockRisingEdge bit) s = .next (s.sampleBit (bits ++ [bit])) := by
  refine (if_neg (by simp [running])).trans ?_
  rw [frame]

/-- A bit before the 64th joins the bits received (R157). -/
theorem exec_spiClock_of_command_lt {bits : List Bool} (frame : s.frame = .command bits)
    (more : bits.length < 63) :
    exec (.spiClockRisingEdge bit) s = .next (s.withFrame (.command (bits ++ [bit]))) := by
  have inside : (bits ++ [bit]).length < Config.commandBits := by
    simpa [Config.commandBits] using Nat.succ_lt_succ more
  rw [exec_spiClock_of_command running bit frame, State.sampleBit, if_pos inside]
  rfl

/-- The 64th bit takes the command that the bits spell (R157). -/
theorem exec_spiClock_of_command_last {bits : List Bool} (frame : s.frame = .command bits)
    (last : bits.length = 63) :
    exec (.spiClockRisingEdge bit) s
      = .next (s.take (decodeFrame (wordOfBits (bits ++ [bit])))) := by
  have whole : ¬ (bits ++ [bit]).length < Config.commandBits := by
    simp [Config.commandBits, last]
  rw [exec_spiClock_of_command running bit frame, State.sampleBit, if_neg whole]

/-- A bit in ANSWER is counted, and the 104th ends the answer (R157). -/
theorem exec_spiClock_of_answer {n : Nat} {r : Result} (frame : s.frame = .answer n r) :
    exec (.spiClockRisingEdge bit) s
      = .next (s.withFrame (if n < 103 then .answer (n + 1) r else .overrun)) := by
  have bound : n + 1 < Config.frameBits ↔ n < 103 := Nat.succ_lt_succ_iff
  refine (if_neg (by simp [running])).trans ?_
  rw [frame]
  simp only [bound]
  split <;> rfl

/-- A bit in UNSELECTED or OVERRUN is nothing (Table 44). -/
theorem exec_spiClock_of_idle (idle : s.frame = .unselected ∨ s.frame = .overrun) :
    exec (.spiClockRisingEdge bit) s = .next s := by
  refine (if_neg (by simp [running])).trans ?_
  rcases idle with frame | frame <;> rw [frame]

end

/-- Settles O57, by the frame state that the edge finds. -/
theorem frameFollowsItsBits : Obligations.FrameFollowsItsBits := by
  intro s bit running
  refine ⟨exec_chipSelectFall_eq running, exec_chipSelectRise_eq running,
    fun bits frame more => exec_spiClock_of_command_lt running bit frame more,
    fun bits frame last => ?_, fun n r frame inside => ?_, fun n r frame past => ?_,
    exec_spiClock_of_idle running bit⟩
  · rw [exec_spiClock_of_command_last running bit frame last, exec_toInstr]
  · rw [exec_spiClock_of_answer running bit frame, if_pos inside]
    rfl
  · rw [exec_spiClock_of_answer running bit frame, if_neg (Nat.not_lt.2 past)]
    rfl

/-! ### A frame clocked in -/

/-- The state after one more step, where every step so far led to a state. -/
def nextState (x : Option State) : Option State :=
  x.bind fun s =>
    match step s with
    | .next t => some t
    | .fault _ => none
    | .refused _ => none

theorem nextState_of_pending {s t : State} {c : Instr} {cs : List Instr}
    (waiting : s.pending = c :: cs) (taken : exec c (s.withPending cs) = .next t) :
    nextState (some s) = some t := by
  have stepped : step s = .next t := by simp only [step, waiting, taken]
  simp only [nextState, Option.bind_some, stepped]

/-- Bits that leave the frame short of its 64th are clocked into it, one step each (R157). -/
theorem iterate_nextState_bits {behind : List Instr} (bits : List Bool) {s : State}
    {received : List Bool} (running : s.deviceReset = false)
    (waiting : s.pending = bits.map .spiClockRisingEdge ++ behind)
    (frame : s.frame = .command received) (short : received.length + bits.length ≤ 63) :
    nextState^[bits.length] (some s)
      = some ((s.withPending behind).withFrame (.command (received ++ bits))) := by
  induction bits generalizing s received with
  | nil =>
    have queue : s.pending = behind := waiting
    rw [List.append_nil, ← queue, ← frame]
    rfl
  | cons b bits ih =>
    rw [List.length_cons] at short
    have sampled := nextState_of_pending waiting (exec_spiClock_of_command_lt
      (s := s.withPending (bits.map .spiClockRisingEdge ++ behind)) running b frame (by omega))
    have shorter : (received ++ [b]).length + bits.length ≤ 63 := by
      rw [List.length_append, List.length_singleton]
      omega
    rw [List.length_cons, Function.iterate_succ_apply, sampled, List.append_cons received b bits]
    refine ih ?_ ?_ ?_ shorter
    · exact running
    · rfl
    · rfl

/-- Chip select falls, and 64 rising edges take the command that the bits spell (R157). -/
theorem iterate_nextState_frame {s : State} {w : FrameWord} {behind : List Instr}
    (running : s.deviceReset = false)
    (waiting : s.pending
      = .chipSelectFall :: (bitsOfWord w).map .spiClockRisingEdge ++ behind) :
    nextState^[65] (some s) = some ((s.withPending behind).take (decodeFrame w)) := by
  obtain ⟨early, last, bits, length⟩ : ∃ early last, bitsOfWord w = early ++ [last]
      ∧ early.length = 63 := ⟨_, _, bitsOfWord_eq_append w, by simp⟩
  rw [bits, List.map_append, List.cons_append, List.append_assoc] at waiting
  have selected := nextState_of_pending waiting
    (exec_chipSelectFall_eq (s := s.withPending _) running)
  have sampled : nextState^[63] (nextState (some s))
      = some ((s.withPending (.spiClockRisingEdge last :: behind)).withFrame (.command early)) := by
    rw [selected, ← length]
    refine iterate_nextState_bits (received := []) early ?_ ?_ ?_ (by simp [length])
    · exact running
    · rfl
    · rfl
  have taken := exec_spiClock_of_command_last
    (s := (s.withPending behind).withFrame (.command early)) running last rfl length
  rw [← bits, wordOfBits_bitsOfWord,
    State.take_withFrame (s := s.withPending behind) running] at taken
  calc nextState^[65] (some s)
    _ = nextState^[64] (nextState (some s)) := Function.iterate_succ_apply nextState 64 (some s)
    _ = nextState (nextState^[63] (nextState (some s))) :=
      Function.iterate_succ_apply' nextState 63 (nextState (some s))
    _ = some ((s.withPending behind).take (decodeFrame w)) := by
      rw [sampled]
      exact nextState_of_pending rfl taken

/-- Settles O60: the edges take the command at the 64th, on a state that differs from the row's in
the management frame only. -/
theorem clockedFrameIsItsCommand : Obligations.ClockedFrameIsItsCommand := by
  intro s w behind running waiting
  refine ⟨(s.withPending behind).take (decodeFrame w), exec_toInstr _ _, ?_⟩
  refine Eq.trans ?_ (iterate_nextState_frame running waiting)
  refine Eq.trans (congrArg (List.foldl · (some s) (List.range 65)) ?_)
    (List.foldl_const nextState (some s) (List.range 65))
  funext x _
  cases x <;> rfl

/-! ### The answer line -/

/-- The five bytes of a result, byte 8 of the frame before the others (Table 52). -/
def Result.byteList (r : Result) : List Byte :=
  [r.code.code, r.value.extractLsb' 24 8, r.value.extractLsb' 16 8, r.value.extractLsb' 8 8,
    r.value.extractLsb' 0 8]

/-- Byte `j` of a result, counted from the most significant. -/
theorem Result.byteList_getElem? (r : Result) {j : Nat} (h : j < 5) :
    r.byteList[j]? = some (r.bytes.extractLsb' (32 - 8 * j) 8) := by
  unfold bytes
  interval_cases j
  · exact congrArg some BitVec.extractLsb'_append_eq_left.symm
  all_goals exact congrArg some (BitVec.extractLsb'_append_eq_of_add_le (by decide)).symm

/-- Bit `k` of a result is bit `k % 8` of byte `k / 8`, each counted from the most significant. -/
theorem Result.bytes_getMsbD (r : Result) {k : Nat} (h : k < 40) :
    r.bytes.getMsbD k = (r.bytes.extractLsb' (32 - 8 * (k / 8)) 8).getLsbD (7 - k % 8) := by
  have place : 40 - 1 - k = 32 - 8 * (k / 8) + (7 - k % 8) := by omega
  have inByte : 7 - k % 8 < 8 := by omega
  simp [BitVec.getMsbD, h, place, inByte]

/-- Settles O58: the line in ANSWER shows the bit of the result's byte that is due. -/
theorem answerLineShowsTheResult : Obligations.AnswerLineShowsTheResult := by
  refine ⟨fun s => ⟨fun frame => ?_, fun bits frame => ?_, fun frame => ?_,
    fun n r frame begun unfinished => ?_⟩, by decide⟩
  · simp only [State.dataOut, frame]
  · simp only [State.dataOut, frame]
  · simp only [State.dataOut, frame]
  · refine ⟨_, r.byteList_getElem? (j := (n - 64) / 8) (by omega), ?_⟩
    simp only [State.dataOut, frame, Config.commandBits]
    rw [r.bytes_getMsbD (by omega)]

end Sys2Proof.Machine
end

section
/-! SUPPORT and PROOFS. The objects and fields that codes name, the refusals of codes that name
nothing, and the access and range of every field. -/

namespace Sys2Proof.Machine

/-! ### Commands on a field -/

section
variable {s : State} {object index field : Byte} {m : MgmtCommand} {act : Field → State × Result}

/-- A command on a code that names no object answers BAD_OBJECT (R160). -/
theorem exec_onField_of_no_object (running : s.deviceReset = false)
    (performs : s.perform m = onField object index field s act)
    (unnamed : objectOf object index = none) :
    exec m.toInstr s = .next (s.answers .badObject 0) := by
  refine exec_toInstr_of_unchanged (r := ⟨.badObject, 0⟩) running ?_
  simp only [performs, onField, unnamed]

/-- A command on a code that names no field of its object answers BAD_FIELD (R160). -/
theorem exec_onField_of_no_field {o : ObjectRef} (running : s.deviceReset = false)
    (performs : s.perform m = onField object index field s act)
    (named : objectOf object index = some o) (lacks : fieldIn o field = none) :
    exec m.toInstr s = .next (s.answers .badField 0) := by
  refine exec_toInstr_of_unchanged (r := ⟨.badField, 0⟩) running ?_
  simp only [performs, onField, named, lacks]

end

/-- A code and an index name an object exactly when the index is below the object's number of
indices (Table 55). -/
theorem objectOf_eq_none_iff {object index : Byte} :
    objectOf object index = none ↔ (objectSizes[object.toNat]?).getD 0 ≤ index.toNat := by
  refine ⟨fun unnamed => ?_, objectOf_eq_none⟩
  by_cases listed : object.toNat < 10
  · obtain ⟨k, below, rfl⟩ : ∃ k < 10, object = BitVec.ofNat 8 k := ⟨_, listed, by simp⟩
    interval_cases k <;> simpa [objectOf, objectSizes, indexIn_eq_none] using unnamed
  · rw [List.getElem?_eq_none (Nat.not_lt.1 listed)]
    exact Nat.zero_le _

/-- An object's list of its fields, read by code, is the object's (Tables 56 to 63). -/
theorem ObjectRef.Lists.fieldIn_eq {o : ObjectRef} {fields : List (Byte × Field)}
    (h : o.Lists fields) (code : Byte) : fieldIn o code = fields.lookup code := by
  cases found : fields.lookup code with
  | some f =>
    obtain ⟨before, after, rfl, -⟩ := List.lookup_eq_some_iff.1 found
    exact h.has (code, f) (by simp)
  | none =>
    refine h.lacks code fun listed => ?_
    obtain ⟨x, among, rfl⟩ := List.mem_map.1 listed
    simpa using List.lookup_eq_none_iff.1 found x among

/-- A list whose things are mapped, read by code. -/
theorem map_lookup {α β : Type} (f : α → β) (l : List (Byte × α)) (code : Byte) :
    (l.lookup code).map f = (l.map fun x => (x.1, f x.2)).lookup code := by
  induction l with
  | nil => rfl
  | cons x l ih =>
    obtain ⟨key, a⟩ := x
    cases same : code == key with
    | true => simp [List.lookup_cons, same]
    | false => simpa [List.lookup_cons, same] using ih

theorem ObjectRef.lists_eventHold :
    ObjectRef.eventHold.Lists
      [(0x00, .held .holding), (0x01, .held .kind), (0x02, .held .presence),
        (0x03, .held .frameNumber), (0x04, .held .frameTick), (0x05, .held .port),
        (0x06, .held .slot), (0x07, .held .window), (0x08, .held .blockHigh),
        (0x09, .held .blockLow), (0x0A, .held .sequence), (0x0B, .held .status),
        (0x0C, .held .rule)] := by
  refine ⟨by simp [fieldIn, heldField], fun code unlisted => ?_⟩
  simp_all [fieldIn, heldField]

/-! ### Access and ranges -/

/-- The range of the values that a field stores, absent where the field is read-only (Tables 57 to
61). -/
@[simp] def Field.range : Field → Option (Nat × Nat)
  | .global .threshold => some (0, 4095)
  | .global .deadline => some (0, 65535)
  | .global .defaultAction => some (0, 1)
  | .global (.enable _) => some (0, 1)
  | .port _ .weight => some (0, 15)
  | .port _ .startLevel => some (1, 16)
  | .port _ .ageLimit => some (0, 65535)
  | .port _ .inFlightLimit => some (1, 16)
  | .port _ .postedWrites => some (0, 1)
  | .stagedSchedule .period => some (0, 65535)
  | .stagedSchedule .prescaler => some (0, 255)
  | .stagedSchedule .count => some (0, 255)
  | .stagedWindow _ .owner => some (0, 3)
  | .stagedWindow _ .start => some (0, 65535)
  | .stagedWindow _ .length => some (1, 65535)
  | .stagedWindow _ .guard => some (0, 255)
  | .stagedWindow _ .budget => some (0, 4095)
  | .stagedWindow _ .lend => some (0, 1)
  | .rule _ .enabled => some (0, 1)
  | .rule _ .firstHigh => some (0, 3)
  | .rule _ .firstLow => some (0, 4294967295)
  | .rule _ .lastHigh => some (0, 3)
  | .rule _ .lastLow => some (0, 4294967295)
  | .rule _ .portMask => some (0, 15)
  | .rule _ .kinds => some (0, 2)
  | .rule _ .action => some (0, 3)
  | _ => none

theorem Field.writable_eq_range (f : Field) : f.writable = f.range.isSome := by
  cases f with
  | global f | port p f | stagedSchedule f | stagedWindow w f | rule k f => cases f <;> rfl
  | _ => rfl

theorem Field.clearable_iff (f : Field) :
    f.clearable = true ↔ (∃ p g, f = .counter p g) ∨ f = .status .dropCount := by
  cases f with
  | status f => cases f <;> simp [clearable]
  | _ => simp [clearable]

theorem Field.isStaged_iff (f : Field) :
    f.isStaged = true ↔ (∃ g, f = .stagedSchedule g) ∨ ∃ w g, f = .stagedWindow w g := by
  cases f <;> simp [isStaged]

/-- The start levels are 1, 4, 8 and 16 (Table 58). -/
theorem StartLevel.ofNumber_isSome (v : Word32) :
    (StartLevel.ofNumber v.toNat).isSome = true ↔ v ∈ ([1, 4, 8, 16] : List Word32) := by
  simp only [ofNumber, List.mem_cons, List.not_mem_nil, or_false, ← BitVec.toNat_inj]
  repeat' split
  all_goals simp_all

theorem GlobalField.accepts_iff (f : GlobalField) (v : Nat) :
    f.accepts v = true ↔ ∃ x, (Field.global f).range = some x ∧ x.1 ≤ v ∧ v ≤ x.2 := by
  cases f <;> simp [accepts]

theorem ScheduleField.accepts_iff (f : ScheduleField) (v : Nat) :
    f.accepts v = true ↔ ∃ x, (Field.stagedSchedule f).range = some x ∧ x.1 ≤ v ∧ v ≤ x.2 := by
  cases f <;> simp [accepts]

theorem WindowField.accepts_iff (f : WindowField) (w : WindowId) (v : Nat) :
    f.accepts v = true ↔ ∃ x, (Field.stagedWindow w f).range = some x ∧ x.1 ≤ v ∧ v ≤ x.2 := by
  cases f <;> simp [accepts]

/-- The low part of a block takes every value of a frame (Table 61). -/
theorem RuleField.accepts_iff (f : RuleField) (k : RuleId) (v : Word32) :
    f.accepts v.toNat = true
      ↔ ∃ x, (Field.rule k f).range = some x ∧ x.1 ≤ v.toNat ∧ v.toNat ≤ x.2 := by
  have word : v.toNat ≤ 4294967295 := Nat.le_of_lt_succ v.isLt
  cases f <;> simp [accepts, word]

theorem PortField.accepts_iff (f : PortField) (p : PortId) (v : Word32) :
    f.accepts v.toNat = true
      ↔ ∃ x, (Field.port p f).range = some x ∧ x.1 ≤ v.toNat ∧ v.toNat ≤ x.2
        ∧ (f = .startLevel → v ∈ ([1, 4, 8, 16] : List Word32)) := by
  cases f with
  | startLevel =>
    simp only [accepts, StartLevel.ofNumber_isSome, Field.range, Option.some.injEq,
      exists_eq_left', true_implies, List.mem_cons, List.not_mem_nil, or_false]
    bv_omega
  | _ => simp [accepts]

theorem Field.accepts_iff (f : Field) (v : Word32) :
    f.accepts v.toNat = true ↔ ∃ x, f.range = some x ∧ x.1 ≤ v.toNat ∧ v.toNat ≤ x.2
      ∧ ∀ p, f = .port p .startLevel → v ∈ ([1, 4, 8, 16] : List Word32) := by
  cases f with
  | port p f => simpa [accepts] using f.accepts_iff p v
  | global f => simpa [accepts] using f.accepts_iff v.toNat
  | stagedSchedule f => simpa [accepts] using f.accepts_iff v.toNat
  | stagedWindow w f => simpa [accepts] using f.accepts_iff w v.toNat
  | rule k f => simpa [accepts] using f.accepts_iff k v
  | _ => simp [accepts]

/-- Settles O51: the refusals by the codes that name nothing, the objects and the fields by their
lists, and access and ranges field by field. -/
theorem fieldsAreCheckedByTheirTables : Obligations.FieldsAreCheckedByTheirTables := by
  refine ⟨fun s object index field value running => ⟨fun unnamed c listed => ?_,
      fun o named lacks c listed => ?_, fun o f named has => exec_read_of_field running named has⟩,
    fun object index => ⟨objectOf_eq_none_iff, by decide⟩, fun p w code => ?_, fun f => ?_⟩
  · simp only [List.mem_cons, List.not_mem_nil, or_false] at listed
    rcases listed with rfl | rfl | rfl
    · exact exec_onField_of_no_object (m := .read object index field) running rfl unnamed
    · exact exec_onField_of_no_object (m := .write object index field value) running rfl unnamed
    · exact exec_onField_of_no_object (m := .readAndClear object index field) running rfl unnamed
  · simp only [List.mem_cons, List.not_mem_nil, or_false] at listed
    rcases listed with rfl | rfl | rfl
    · exact exec_onField_of_no_field (m := .read object index field) running rfl named lacks
    · exact exec_onField_of_no_field (m := .write object index field value) running rfl named lacks
    · exact exec_onField_of_no_field (m := .readAndClear object index field) running rfl named lacks
  · simp only [map_lookup]
    exact ⟨ObjectRef.lists_identity.fieldIn_eq code, ObjectRef.lists_global.fieldIn_eq code,
      (ObjectRef.lists_port p).fieldIn_eq code, (ObjectRef.lists_staged w).fieldIn_eq code,
      (ObjectRef.lists_active w).fieldIn_eq code, (ObjectRef.lists_usage w).fieldIn_eq code,
      (ObjectRef.lists_rule w).fieldIn_eq code, (ObjectRef.lists_counters p).fieldIn_eq code,
      ObjectRef.lists_eventStatus.fieldIn_eq code, ObjectRef.lists_eventHold.fieldIn_eq code⟩
  · intro range
    have range_eq : range = f.range := rfl
    rw [range_eq]
    exact ⟨f.writable_eq_range, f.accepts_iff, f.clearable_iff, f.isStaged_iff⟩

end Sys2Proof.Machine
end

section
/-! PROOFS. The queue of waiting commands: that every command answers a next state, and that nothing a
command does reaches the commands behind it. -/

namespace Sys2Proof.Machine

/-! ### No command is refused -/

/-- A command that looks for its event in the state has a next state whether or not the event can
occur (log 3); every other command has one next state by its definition. -/
theorem exec_completes (c : Instr) (s : State) : ∃ t, exec c s = .next t := by
  cases c with
  | arrival | grant | commandItemTaken | transferEnd | completionHeader | readBeat | deadlineExpiry
  | replyItemTaken | deliveryEnd | portResetAssert | portResetRelease | deviceResetAssert
  | deviceResetRelease | chipSelectFall | chipSelectRise | spiClockRisingEdge =>
    simp only [exec, execArrival, execGrant, execCommandItemTaken, execTransferEnd,
      execCompletionHeader, execReadBeat, execDeadlineExpiry, execReplyItemTaken, execDeliveryEnd,
      execPortResetAssert, execPortResetRelease, execDeviceResetAssert, execDeviceResetRelease,
      execChipSelectFall, execChipSelectRise, execSpiClockRisingEdge]
    repeat' split
    all_goals exact ⟨_, rfl⟩
  | _ => exact ⟨_, rfl⟩

/-! ### The commands that wait are no part of what a command does -/

@[simp] theorem State.counted_pending (s : State) : s.counted.pending = s.pending := rfl

/-- Waiting commands are not the part's to reset (R154). -/
@[simp] theorem State.resetBlocks_pending (s : State) (frame : MgmtFrame) :
    (s.resetBlocks frame).pending = s.pending := by
  simp [State.resetBlocks]

@[simp] theorem State.storeField_pending (s : State) (f : Field) (v : Word32) :
    (s.storeField f v).pending = s.pending := by
  unfold State.storeField
  split <;> simp

theorem Performed.pending_eq {s t : State} (e : Performed s t) : t.pending = s.pending := by
  cases e with
  | enabled p mode | drained p mode => simp [State.withMode]
  | _ => simp

theorem Effect.pending_eq {s t : State} (e : Effect s t) : t.pending = s.pending := by
  cases e with
  | tickEnded running => simp [State.advanceTick_eq]
  | strayBeat last running up channel => simp [State.strayBeat]
  | linkUp low running down => simp [State.takeLinkUp]
  | resetLevel p level idle => simp [State.withResetInput]
  | managed t r running performed => exact performed.pending_eq
  | _ => simp

/-- Settles O2: no command is refused, and nothing that a command can do reaches the queue. -/
theorem everyCommandCompletes : Obligations.EveryCommandCompletes := by
  intro c s
  obtain ⟨t, taken⟩ := exec_completes c s
  exact ⟨t, taken, (exec_effect taken).pending_eq⟩

end Sys2Proof.Machine
end
